-- ==== Sys2Proof/Word.lean ====
section
/-! DEFINITION. The two widths of this hardware (spec/00_scope.md R7, R8): a byte and a word. Every helper that
takes one apart stands in Sys2Proof/Machine/Bits.lean. -/
namespace Sys2Proof

/-- A byte, 8 bits: general registers, F, memory cells and port cells (R7, R8). -/
abbrev Byte := BitVec 8

/-- A word, 16 bits: PC, SP, IX, IY, register pairs and addresses (R7, R8). -/
abbrev Word := BitVec 16

end Sys2Proof
end

