-- ==== Sys2Proof/Machine/Bits.lean ====
section
/-! DEFINITION. The byte-order, bit-field and sign helpers every other file uses (spec/00_scope.md R8, R9; spec/20_memory.md
R53): each is said once, here. -/
namespace Sys2Proof

/-- The word whose high byte is `hi` and low byte `lo` (R23, R53, R80: `hi ++ lo`). -/
def wordOf (hi lo : Byte) : Word := hi ++ lo

/-- Bits 15:8 of a word (R8, R23). -/
def hiByte (v : Word) : Byte := v.extractLsb' 8 8

/-- Bits 7:0 of a word (R8, R23). -/
def loByte (v : Word) : Byte := v.extractLsb' 0 8

/-- Bit `i` of `v` replaced by `b`, every other bit kept (R30: a flag operation writes only its own bit). -/
def putBit (v : Byte) (i : Nat) (b : Bool) : Byte :=
  if b then v ||| (1#8 <<< i) else v &&& ~~~(1#8 <<< i)

/-- A bit as the number 0 or 1. -/
def bitNat (b : Bool) : Nat := if b then 1 else 0

/-- A bit as a byte. -/
def bitByte (b : Bool) : Byte := if b then 0x01 else 0x00

/-- `sext_16` of a byte as an integer (R9): `v` if bit 7 is 0, else `v - 256`. -/
def signedByte (v : Byte) : Int :=
  if v.getLsbD 7 then (v.toNat : Int) - 256 else (v.toNat : Int)

/-- `trunc8` of an exact integer result (R8, R179). -/
def trunc8 (raw : Int) : Byte := BitVec.ofInt 8 raw

/-- `trunc16` of an exact integer result (R8, R22). -/
def trunc16 (raw : Int) : Word := BitVec.ofInt 16 raw

end Sys2Proof
end

