-- ==== Sys2Proof/Config.lean ====
section
/-! DEFINITION. What is fixed for the machine (spec/00_scope.md R7) and the free value of its draws (R12). -/
namespace Sys2Proof

/-- PORT_COUNT (R7, R41): the port array has 16 cells. -/
abbrev Config.portCount : Nat := 16

/-- MEM_SIZE (R7, R42, R50): memory has 65,536 cells. -/
abbrev Config.memSize : Nat := 65536

/-- ROM_MAX (R7, R458): the largest image the host's loader accepts, in bytes. -/
abbrev Config.romMax : Nat := 32767

/-- FREE VALUE (notes/assumptions/2.md): the bit that the k-th `arbitrary_bit()` of a run draws (R12, R36, R37). It has no
body: no claim can rest on its value. Safe. -/
opaque Config.arbitraryBit : Nat → Bool

/-- The three parameters of the reset procedure (R7, R450). -/
structure ResetParams where
  pcReset   : Word
  spReset   : Word
  portsInit : Vector Byte 16
deriving DecidableEq, Repr

/-- The parameters `State.reset` takes: PC_RESET at its default 0 (R453; notes/assumptions/5.md); SP_RESET and
PORTS_INIT, which the spec leaves OPEN (R450, R452), at zero. DESIGN CHOICE, unsafe (notes/assumptions/3.md and 4.md). -/
def ResetParams.default : ResetParams where
  pcReset   := 0x0000
  spReset   := 0x0000
  portsInit := Vector.replicate 16 0x00

end Sys2Proof
end

