-- ==== Sys2Proof/Machine/State.lean ====
section
/-! DEFINITION. The state of the machine, all of it (spec/10_state.md R45), as plain data; the reasons a step can stop; and
the state after reset (R46; spec/70_reset_and_hazards.md R450). -/
namespace Sys2Proof.Machine

/-- The two faults of the spec (spec/60_exceptions.md R400), with what each records. A faulting instruction RECORDS one of
these in `State.fault` and answers a NEXT state, as R401 describes its entry (notes/assumptions/1.md); so no step of this
model answers `Outcome.fault` with one. -/
inductive Fault where
  /-- Raised by IN A,(n) and OUT (n),A when n >= 16 (R300, R402): the address of the opcode and the port number. Recorded in
  the state, nothing else written. Safe. -/
  | portOutOfRange (pc : Word) (n : Byte)
  /-- Raised by EX AF,AF', EXX and DAA (R248, R249, R270, R403): the address of the opcode and the opcode byte. Recorded in
  the state, nothing else written. Safe. -/
  | unmodelledOpcode (pc : Word) (opcode : Byte)
deriving DecidableEq, Repr

/-- Why the model has no meaning for an instruction. -/
inductive Refusal where
  /-- Raised by `exec`'s arm of an instruction that has no meaning yet; every instruction of this model has one, so nothing
  raises it. Safe. -/
  | notModelled (mnemonic : String)
deriving DecidableEq, Repr

/-- Memory (R42, R50): the cells that do not read as `Memory.unlisted`, by rising address (see `Memory.Wf`). -/
abbrev Memory := List Host.Cell

/-- What a cell that memory does not list reads as: every cell is 0x00 after reset (R451; notes/assumptions/6.md). -/
def Memory.unlisted : Byte := 0x00

/-- The canonical form: addresses strictly rising and inside memory, and no entry equal to what an unlisted address reads
as, so that equal memories are equal data. -/
abbrev Memory.Wf (m : Memory) : Prop :=
  m.Pairwise (fun x y => x.1 < y.1) ∧ ∀ x ∈ m, x.1 < Config.memSize ∧ x.2 ≠ Memory.unlisted

/-- The complete state (R45). -/
structure State where
  /-- The accumulator (R20). -/
  a : Byte
  /-- The flag register: bit 7 S, 6 Z, 5 unused, 4 H, 3 unused, 2 PV, 1 N, 0 C (R28). -/
  f : Byte
  b : Byte
  c : Byte
  d : Byte
  e : Byte
  h : Byte
  l : Byte
  /-- The index registers, which nothing in this hardware reads or writes (R26). -/
  ix : Word
  iy : Word
  /-- The stack pointer: the address of the most recently pushed byte (R60). -/
  sp : Word
  /-- The program counter: the address of the opcode byte while an instruction runs (R100). -/
  pc : Word
  mem : Memory
  /-- The port array, 16 cells of its own address space (R41). -/
  ports : Vector Byte 16
  /-- The recorded fault, sticky until reset (R44, R404). -/
  fault : Option Fault
  /-- The MODEL's own field (notes/assumptions/2.md): how many bits `arbitrary_bit()` has drawn, so that each draw is a fresh
  free value. No statement rests on it. -/
  draws : Nat
deriving DecidableEq, Repr

/-- The reset procedure (R450) for any parameters: every register but PC and SP zero, every memory cell 0x00, no fault. -/
def State.resetWith (p : ResetParams) : State where
  a := 0x00
  f := 0x00
  b := 0x00
  c := 0x00
  d := 0x00
  e := 0x00
  h := 0x00
  l := 0x00
  ix := 0x0000
  iy := 0x0000
  sp := p.spReset
  pc := p.pcReset
  mem := []
  ports := p.portsInit
  fault := none
  draws := 0

/-- The machine right after reset, at the parameters of `ResetParams.default`. -/
def State.reset : State := State.resetWith ResetParams.default

/-- What a meaning answers. -/
abbrev Result := Host.Outcome State Fault Refusal

end Sys2Proof.Machine
end

