-- ==== Sys2Proof/Machine/Ops.lean ====
section
/-! DEFINITION. The named operations over memory (spec/20_memory.md), the stack, the program counter, the draws
(spec/00_scope.md R12), the port array (spec/47_io.md R300) and the entry of a fault (spec/60_exceptions.md R401). -/
namespace Sys2Proof.Machine

/-! ## Memory as data -/

/-- The byte at address `k` (R52). -/
def Memory.read : Memory → Nat → Byte
  | [], _ => Memory.unlisted
  | x :: rest, k => if x.1 = k then x.2 else Memory.read rest k

/-- `m` without an entry for address `k`. -/
def Memory.erase (m : Memory) (k : Nat) : Memory := m.filter (fun x => x.1 != k)

/-- `m` with the entry `(k, v)` put before the first higher address. -/
def Memory.insert : Memory → Nat → Byte → Memory
  | [], k, v => [(k, v)]
  | x :: rest, k, v => if k < x.1 then (k, v) :: x :: rest else x :: Memory.insert rest k v

/-- The byte `v` stored at address `k` (R52), in canonical form: writing what an unlisted cell reads as removes the entry. -/
def Memory.write (m : Memory) (k : Nat) (v : Byte) : Memory :=
  if v = Memory.unlisted then Memory.erase m k else Memory.insert (Memory.erase m k) k v

/-! ## Memory accesses -/

/-- `MemRead(addr, 1)` (R52). An address is a word, so it is always taken modulo 2^16 (R51). -/
def State.memRead (s : State) (addr : Word) : Byte := Memory.read s.mem addr.toNat

/-- `MemWrite(addr, 1, v)` (R52). -/
def State.memWrite (s : State) (addr : Word) (v : Byte) : State := { s with mem := Memory.write s.mem addr.toNat v }

/-- `MemRead(addr, 2)` (R53): low byte at the lower address, the other at `addr + 1`, which wraps. -/
def State.memRead16 (s : State) (addr : Word) : Word := wordOf (s.memRead (addr + 1)) (s.memRead addr)

/-- `MemWrite(addr, 2, v)` (R53). -/
def State.memWrite16 (s : State) (addr : Word) (v : Word) : State :=
  (s.memWrite addr (loByte v)).memWrite (addr + 1) (hiByte v)

/-! ## The stack -/

/-- SP moved down by one and the byte `v` written there (R60: "pushing decrements the pointer before writing"). -/
def State.push8 (s : State) (v : Byte) : State := ({ s with sp := s.sp - 1 }).memWrite (s.sp - 1) v

/-- `Push16(v)` (R60): the high byte first. -/
def State.push16 (s : State) (v : Word) : State := (s.push8 (hiByte v)).push8 (loByte v)

/-- `Pop16()` (R61): the low byte at SP, the high byte at SP + 1; the value, and the state with SP moved up by two. -/
def State.pop16 (s : State) : Word × State := (s.memRead16 s.sp, { s with sp := s.sp + 2 })

/-! ## The program counter -/

/-- `pc <- trunc16(pc + k)` (R102). -/
def State.advance (s : State) (k : Word) : State := { s with pc := s.pc + k }

/-- `pc <- target` (R102). -/
def State.goto (s : State) (target : Word) : State := { s with pc := target }

/-! ## Draws -/

/-- `arbitrary_bit()` (R12): the next free bit, and the state that has drawn it (notes/assumptions/2.md). -/
def State.draw (s : State) : Bool × State := (Config.arbitraryBit s.draws, { s with draws := s.draws + 1 })

/-! ## Taking a fault

There is no return from one beside it: a fault saves nothing and transfers control nowhere (R407), the first-level set has no
return-from-trap instruction (R408), and only a reset clears the field (R404). -/

/-- `raise <Fault>(info)` (R12, R401): the fault is recorded; nothing else is written, so pc stays at the faulting opcode. -/
def State.raise (s : State) (x : Fault) : State := { s with fault := some x }

/-! ## The port array -/

/-- `PortRead(n)` (R300): the port cell, or the fault that `n >= PORT_COUNT` raises. -/
def State.portRead (s : State) (n : Byte) : Except Fault Byte :=
  if h : n.toNat < Config.portCount then .ok s.ports[n.toNat] else .error (.portOutOfRange s.pc n)

/-- `PortWrite(n, v)` (R300): the state with the port cell written, or the fault that `n >= PORT_COUNT` raises. -/
def State.portWrite (s : State) (n : Byte) (v : Byte) : Except Fault State :=
  if h : n.toNat < Config.portCount then .ok { s with ports := s.ports.set n.toNat v }
  else .error (.portOutOfRange s.pc n)

end Sys2Proof.Machine
end

