-- ==== Sys2Proof/Syntax.lean ====
section
/-! DEFINITION. The instructions of this hardware as syntax: the operand selectors of spec/10_state.md (R24, R25, R38,
R39) and of spec/30_encoding.md R81, and `Instr`, one constructor per row of spec/opcode_table.json (R88).

Names: the operation in small letters, then its operands as the mnemonic has them, joined by `_`; an operand that is the
memory byte or word at an address carries an `m` before it (`ldA_mHL` is LD A,(HL), `ldmnn_A` is LD (nn),A). -/
namespace Sys2Proof

/-- The seven 8-bit general registers (R20). -/
inductive Reg8 where
  | b | c | d | e | h | l | a
deriving DecidableEq, Repr

/-- What the 3-bit register-operand field selects (R24): a general register, or the memory byte at address HL. -/
inductive Operand8 where
  | reg (r : Reg8)
  | mHL
deriving DecidableEq, Repr

/-- What the 2-bit pair field selects in the `dd`/`ss` form (R25). -/
inductive RegDD where
  | bc | de | hl | sp
deriving DecidableEq, Repr

/-- What the 2-bit pair field selects in the `qq` form (R25): the four register pairs of R23. -/
inductive RegQQ where
  | bc | de | hl | af
deriving DecidableEq, Repr

/-- The eight conditions (R38), in the order of the 3-bit condition field (R39). -/
inductive Cond where
  | nz | z | nc | c | po | pe | p | m
deriving DecidableEq, Repr

/-- The four conditions of JR cc, in the order of its 2-bit condition field (R39). -/
inductive CondJR where
  | nz | z | nc | c
deriving DecidableEq, Repr

/-- The eight accumulator operations, in the order of the ALU field (R81). -/
inductive AluOp where
  | add | adc | sub | sbc | and | xor | or | cp
deriving DecidableEq, Repr

/-- The operand of an accumulator operation (R150): a register or the byte at HL, or the immediate byte. -/
inductive AluSrc where
  | op (o : Operand8)
  | imm (n : Byte)
deriving DecidableEq, Repr

/-- The 256 first-level instructions (R88): those with operand bytes first, then the one-byte ones, each in the order of
their opcode bytes (Lean's compiler bounds the position of a constructor that carries data). `n` is the unsigned immediate byte or
port number, `nn` the 16-bit immediate, `e` the displacement as the SIGNED value the rules write (R82, R93). -/
inductive Instr where
  | ldBC_nn (nn : Word)     -- 0x01 LD BC,nn (R240)
  | ldB_n (n : Byte)        -- 0x06 LD B,n (R211)
  | ldC_n (n : Byte)        -- 0x0E LD C,n (R211)
  | djnz_e (e : Int)        -- 0x10 DJNZ e (R129)
  | ldDE_nn (nn : Word)     -- 0x11 LD DE,nn (R240)
  | ldD_n (n : Byte)        -- 0x16 LD D,n (R211)
  | jr_e (e : Int)          -- 0x18 JR e (R127)
  | ldE_n (n : Byte)        -- 0x1E LD E,n (R211)
  | jrNZ_e (e : Int)        -- 0x20 JR NZ,e (R128)
  | ldHL_nn (nn : Word)     -- 0x21 LD HL,nn (R240)
  | ldmnn_HL (nn : Word)    -- 0x22 LD (nn),HL (R242)
  | ldH_n (n : Byte)        -- 0x26 LD H,n (R211)
  | jrZ_e (e : Int)         -- 0x28 JR Z,e (R128)
  | ldHL_mnn (nn : Word)    -- 0x2A LD HL,(nn) (R241)
  | ldL_n (n : Byte)        -- 0x2E LD L,n (R211)
  | jrNC_e (e : Int)        -- 0x30 JR NC,e (R128)
  | ldSP_nn (nn : Word)     -- 0x31 LD SP,nn (R240)
  | ldmnn_A (nn : Word)     -- 0x32 LD (nn),A (R220)
  | ldmHL_n (n : Byte)      -- 0x36 LD (HL),n (R214)
  | jrC_e (e : Int)         -- 0x38 JR C,e (R128)
  | ldA_mnn (nn : Word)     -- 0x3A LD A,(nn) (R217)
  | ldA_n (n : Byte)        -- 0x3E LD A,n (R211)
  | jpNZ_nn (nn : Word)     -- 0xC2 JP NZ,nn (R126)
  | jp_nn (nn : Word)       -- 0xC3 JP nn (R125)
  | callNZ_nn (nn : Word)   -- 0xC4 CALL NZ,nn (R132)
  | addA_n (n : Byte)       -- 0xC6 ADD A,n (R152)
  | jpZ_nn (nn : Word)      -- 0xCA JP Z,nn (R126)
  | callZ_nn (nn : Word)    -- 0xCC CALL Z,nn (R132)
  | call_nn (nn : Word)     -- 0xCD CALL nn (R131)
  | adcA_n (n : Byte)       -- 0xCE ADC A,n (R155)
  | jpNC_nn (nn : Word)     -- 0xD2 JP NC,nn (R126)
  | outmn_A (n : Byte)      -- 0xD3 OUT (n),A (R302)
  | callNC_nn (nn : Word)   -- 0xD4 CALL NC,nn (R132)
  | sub_n (n : Byte)        -- 0xD6 SUB n (R158)
  | jpC_nn (nn : Word)      -- 0xDA JP C,nn (R126)
  | inA_mn (n : Byte)       -- 0xDB IN A,(n) (R301)
  | callC_nn (nn : Word)    -- 0xDC CALL C,nn (R132)
  | sbcA_n (n : Byte)       -- 0xDE SBC A,n (R161)
  | jpPO_nn (nn : Word)     -- 0xE2 JP PO,nn (R126)
  | callPO_nn (nn : Word)   -- 0xE4 CALL PO,nn (R132)
  | and_n (n : Byte)        -- 0xE6 AND n (R164)
  | jpPE_nn (nn : Word)     -- 0xEA JP PE,nn (R126)
  | callPE_nn (nn : Word)   -- 0xEC CALL PE,nn (R132)
  | xor_n (n : Byte)        -- 0xEE XOR n (R167)
  | jpP_nn (nn : Word)      -- 0xF2 JP P,nn (R126)
  | callP_nn (nn : Word)    -- 0xF4 CALL P,nn (R132)
  | or_n (n : Byte)         -- 0xF6 OR n (R170)
  | jpM_nn (nn : Word)      -- 0xFA JP M,nn (R126)
  | callM_nn (nn : Word)    -- 0xFC CALL M,nn (R132)
  | cp_n (n : Byte)         -- 0xFE CP n (R173)
  | nop                     -- 0x00 NOP (R105)
  | ldmBC_A                 -- 0x02 LD (BC),A (R218)
  | incBC                   -- 0x03 INC BC (R275)
  | incB                    -- 0x04 INC B (R175)
  | decB                    -- 0x05 DEC B (R177)
  | rlca                    -- 0x07 RLCA (R277)
  | exAF_AF                 -- 0x08 EX AF,AF' (R248)
  | addHL_BC                -- 0x09 ADD HL,BC (R274)
  | ldA_mBC                 -- 0x0A LD A,(BC) (R215)
  | decBC                   -- 0x0B DEC BC (R276)
  | incC                    -- 0x0C INC C (R175)
  | decC                    -- 0x0D DEC C (R177)
  | rrca                    -- 0x0F RRCA (R278)
  | ldmDE_A                 -- 0x12 LD (DE),A (R219)
  | incDE                   -- 0x13 INC DE (R275)
  | incD                    -- 0x14 INC D (R175)
  | decD                    -- 0x15 DEC D (R177)
  | rla                     -- 0x17 RLA (R279)
  | addHL_DE                -- 0x19 ADD HL,DE (R274)
  | ldA_mDE                 -- 0x1A LD A,(DE) (R216)
  | decDE                   -- 0x1B DEC DE (R276)
  | incE                    -- 0x1C INC E (R175)
  | decE                    -- 0x1D DEC E (R177)
  | rra                     -- 0x1F RRA (R280)
  | incHL                   -- 0x23 INC HL (R275)
  | incH                    -- 0x24 INC H (R175)
  | decH                    -- 0x25 DEC H (R177)
  | daa                     -- 0x27 DAA (R270)
  | addHL_HL                -- 0x29 ADD HL,HL (R274)
  | decHL                   -- 0x2B DEC HL (R276)
  | incL                    -- 0x2C INC L (R175)
  | decL                    -- 0x2D DEC L (R177)
  | cpl                     -- 0x2F CPL (R271)
  | incSP                   -- 0x33 INC SP (R275)
  | incmHL                  -- 0x34 INC (HL) (R176)
  | decmHL                  -- 0x35 DEC (HL) (R178)
  | scf                     -- 0x37 SCF (R272)
  | addHL_SP                -- 0x39 ADD HL,SP (R274)
  | decSP                   -- 0x3B DEC SP (R276)
  | incA                    -- 0x3C INC A (R175)
  | decA                    -- 0x3D DEC A (R177)
  | ccf                     -- 0x3F CCF (R273)
  | ldB_B                   -- 0x40 LD B,B (R210)
  | ldB_C                   -- 0x41 LD B,C (R210)
  | ldB_D                   -- 0x42 LD B,D (R210)
  | ldB_E                   -- 0x43 LD B,E (R210)
  | ldB_H                   -- 0x44 LD B,H (R210)
  | ldB_L                   -- 0x45 LD B,L (R210)
  | ldB_mHL                 -- 0x46 LD B,(HL) (R212)
  | ldB_A                   -- 0x47 LD B,A (R210)
  | ldC_B                   -- 0x48 LD C,B (R210)
  | ldC_C                   -- 0x49 LD C,C (R210)
  | ldC_D                   -- 0x4A LD C,D (R210)
  | ldC_E                   -- 0x4B LD C,E (R210)
  | ldC_H                   -- 0x4C LD C,H (R210)
  | ldC_L                   -- 0x4D LD C,L (R210)
  | ldC_mHL                 -- 0x4E LD C,(HL) (R212)
  | ldC_A                   -- 0x4F LD C,A (R210)
  | ldD_B                   -- 0x50 LD D,B (R210)
  | ldD_C                   -- 0x51 LD D,C (R210)
  | ldD_D                   -- 0x52 LD D,D (R210)
  | ldD_E                   -- 0x53 LD D,E (R210)
  | ldD_H                   -- 0x54 LD D,H (R210)
  | ldD_L                   -- 0x55 LD D,L (R210)
  | ldD_mHL                 -- 0x56 LD D,(HL) (R212)
  | ldD_A                   -- 0x57 LD D,A (R210)
  | ldE_B                   -- 0x58 LD E,B (R210)
  | ldE_C                   -- 0x59 LD E,C (R210)
  | ldE_D                   -- 0x5A LD E,D (R210)
  | ldE_E                   -- 0x5B LD E,E (R210)
  | ldE_H                   -- 0x5C LD E,H (R210)
  | ldE_L                   -- 0x5D LD E,L (R210)
  | ldE_mHL                 -- 0x5E LD E,(HL) (R212)
  | ldE_A                   -- 0x5F LD E,A (R210)
  | ldH_B                   -- 0x60 LD H,B (R210)
  | ldH_C                   -- 0x61 LD H,C (R210)
  | ldH_D                   -- 0x62 LD H,D (R210)
  | ldH_E                   -- 0x63 LD H,E (R210)
  | ldH_H                   -- 0x64 LD H,H (R210)
  | ldH_L                   -- 0x65 LD H,L (R210)
  | ldH_mHL                 -- 0x66 LD H,(HL) (R212)
  | ldH_A                   -- 0x67 LD H,A (R210)
  | ldL_B                   -- 0x68 LD L,B (R210)
  | ldL_C                   -- 0x69 LD L,C (R210)
  | ldL_D                   -- 0x6A LD L,D (R210)
  | ldL_E                   -- 0x6B LD L,E (R210)
  | ldL_H                   -- 0x6C LD L,H (R210)
  | ldL_L                   -- 0x6D LD L,L (R210)
  | ldL_mHL                 -- 0x6E LD L,(HL) (R212)
  | ldL_A                   -- 0x6F LD L,A (R210)
  | ldmHL_B                 -- 0x70 LD (HL),B (R213)
  | ldmHL_C                 -- 0x71 LD (HL),C (R213)
  | ldmHL_D                 -- 0x72 LD (HL),D (R213)
  | ldmHL_E                 -- 0x73 LD (HL),E (R213)
  | ldmHL_H                 -- 0x74 LD (HL),H (R213)
  | ldmHL_L                 -- 0x75 LD (HL),L (R213)
  | halt                    -- 0x76 HALT (R106)
  | ldmHL_A                 -- 0x77 LD (HL),A (R213)
  | ldA_B                   -- 0x78 LD A,B (R210)
  | ldA_C                   -- 0x79 LD A,C (R210)
  | ldA_D                   -- 0x7A LD A,D (R210)
  | ldA_E                   -- 0x7B LD A,E (R210)
  | ldA_H                   -- 0x7C LD A,H (R210)
  | ldA_L                   -- 0x7D LD A,L (R210)
  | ldA_mHL                 -- 0x7E LD A,(HL) (R212)
  | ldA_A                   -- 0x7F LD A,A (R210)
  | addA_B                  -- 0x80 ADD A,B (R151)
  | addA_C                  -- 0x81 ADD A,C (R151)
  | addA_D                  -- 0x82 ADD A,D (R151)
  | addA_E                  -- 0x83 ADD A,E (R151)
  | addA_H                  -- 0x84 ADD A,H (R151)
  | addA_L                  -- 0x85 ADD A,L (R151)
  | addA_mHL                -- 0x86 ADD A,(HL) (R153)
  | addA_A                  -- 0x87 ADD A,A (R151)
  | adcA_B                  -- 0x88 ADC A,B (R154)
  | adcA_C                  -- 0x89 ADC A,C (R154)
  | adcA_D                  -- 0x8A ADC A,D (R154)
  | adcA_E                  -- 0x8B ADC A,E (R154)
  | adcA_H                  -- 0x8C ADC A,H (R154)
  | adcA_L                  -- 0x8D ADC A,L (R154)
  | adcA_mHL                -- 0x8E ADC A,(HL) (R156)
  | adcA_A                  -- 0x8F ADC A,A (R154)
  | subB                    -- 0x90 SUB B (R157)
  | subC                    -- 0x91 SUB C (R157)
  | subD                    -- 0x92 SUB D (R157)
  | subE                    -- 0x93 SUB E (R157)
  | subH                    -- 0x94 SUB H (R157)
  | subL                    -- 0x95 SUB L (R157)
  | submHL                  -- 0x96 SUB (HL) (R159)
  | subA                    -- 0x97 SUB A (R157)
  | sbcA_B                  -- 0x98 SBC A,B (R160)
  | sbcA_C                  -- 0x99 SBC A,C (R160)
  | sbcA_D                  -- 0x9A SBC A,D (R160)
  | sbcA_E                  -- 0x9B SBC A,E (R160)
  | sbcA_H                  -- 0x9C SBC A,H (R160)
  | sbcA_L                  -- 0x9D SBC A,L (R160)
  | sbcA_mHL                -- 0x9E SBC A,(HL) (R162)
  | sbcA_A                  -- 0x9F SBC A,A (R160)
  | andB                    -- 0xA0 AND B (R163)
  | andC                    -- 0xA1 AND C (R163)
  | andD                    -- 0xA2 AND D (R163)
  | andE                    -- 0xA3 AND E (R163)
  | andH                    -- 0xA4 AND H (R163)
  | andL                    -- 0xA5 AND L (R163)
  | andmHL                  -- 0xA6 AND (HL) (R165)
  | andA                    -- 0xA7 AND A (R163)
  | xorB                    -- 0xA8 XOR B (R166)
  | xorC                    -- 0xA9 XOR C (R166)
  | xorD                    -- 0xAA XOR D (R166)
  | xorE                    -- 0xAB XOR E (R166)
  | xorH                    -- 0xAC XOR H (R166)
  | xorL                    -- 0xAD XOR L (R166)
  | xormHL                  -- 0xAE XOR (HL) (R168)
  | xorA                    -- 0xAF XOR A (R166)
  | orB                     -- 0xB0 OR B (R169)
  | orC                     -- 0xB1 OR C (R169)
  | orD                     -- 0xB2 OR D (R169)
  | orE                     -- 0xB3 OR E (R169)
  | orH                     -- 0xB4 OR H (R169)
  | orL                     -- 0xB5 OR L (R169)
  | ormHL                   -- 0xB6 OR (HL) (R171)
  | orA                     -- 0xB7 OR A (R169)
  | cpB                     -- 0xB8 CP B (R172)
  | cpC                     -- 0xB9 CP C (R172)
  | cpD                     -- 0xBA CP D (R172)
  | cpE                     -- 0xBB CP E (R172)
  | cpH                     -- 0xBC CP H (R172)
  | cpL                     -- 0xBD CP L (R172)
  | cpmHL                   -- 0xBE CP (HL) (R174)
  | cpA                     -- 0xBF CP A (R172)
  | retNZ                   -- 0xC0 RET NZ (R133)
  | popBC                   -- 0xC1 POP BC (R245)
  | pushBC                  -- 0xC5 PUSH BC (R244)
  | rst00                   -- 0xC7 RST 00H (R135)
  | retZ                    -- 0xC8 RET Z (R133)
  | ret                     -- 0xC9 RET (R134)
  | cbPrefix                -- 0xCB CB prefix (R201)
  | rst08                   -- 0xCF RST 08H (R135)
  | retNC                   -- 0xD0 RET NC (R133)
  | popDE                   -- 0xD1 POP DE (R245)
  | pushDE                  -- 0xD5 PUSH DE (R244)
  | rst10                   -- 0xD7 RST 10H (R135)
  | retC                    -- 0xD8 RET C (R133)
  | exx                     -- 0xD9 EXX (R249)
  | ddPrefix                -- 0xDD DD prefix (R202)
  | rst18                   -- 0xDF RST 18H (R135)
  | retPO                   -- 0xE0 RET PO (R133)
  | popHL                   -- 0xE1 POP HL (R245)
  | exmSP_HL                -- 0xE3 EX (SP),HL (R247)
  | pushHL                  -- 0xE5 PUSH HL (R244)
  | rst20                   -- 0xE7 RST 20H (R135)
  | retPE                   -- 0xE8 RET PE (R133)
  | jpHL                    -- 0xE9 JP (HL) (R130)
  | exDE_HL                 -- 0xEB EX DE,HL (R246)
  | edPrefix                -- 0xED ED prefix (R203)
  | rst28                   -- 0xEF RST 28H (R135)
  | retP                    -- 0xF0 RET P (R133)
  | popAF                   -- 0xF1 POP AF (R245)
  | di                      -- 0xF3 DI (R107)
  | pushAF                  -- 0xF5 PUSH AF (R244)
  | rst30                   -- 0xF7 RST 30H (R135)
  | retM                    -- 0xF8 RET M (R133)
  | ldSP_HL                 -- 0xF9 LD SP,HL (R243)
  | ei                      -- 0xFB EI (R108)
  | fdPrefix                -- 0xFD FD prefix (R204)
  | rst38                   -- 0xFF RST 38H (R135)
deriving DecidableEq, Repr

end Sys2Proof
end

