-- ==== Sys2Proof/Machine/Flags.lean ====
section
/-! DEFINITION. The flag unit (spec/10_state.md R28 to R39): the bit of F each flag is, its rule, the two composite
procedures, and the condition predicates. -/
namespace Sys2Proof.Machine

/-- The six flags (R28). Bits 3 and 5 of F are no flag (R29). -/
inductive Flag where
  | s | z | h | pv | n | c
deriving DecidableEq, Repr

/-- The bit of F that holds a flag (R28). -/
def Flag.bit : Flag → Nat
  | .s => 7
  | .z => 6
  | .h => 4
  | .pv => 2
  | .n => 1
  | .c => 0

/-- A flag's value. -/
def State.flag (s : State) (g : Flag) : Bool := s.f.getLsbD g.bit

/-- F with one flag written and every other bit kept (R30: "applied without disturbing other bits"). -/
def State.putFlag (s : State) (g : Flag) (b : Bool) : State := { s with f := putBit s.f g.bit b }

/-- `set()` of the flag unit (R30). -/
def State.setFlag (s : State) (g : Flag) : State := s.putFlag g true

/-- `reset()` of the flag unit (R30). -/
def State.resetFlag (s : State) (g : Flag) : State := s.putFlag g false

/-- `F.g <- arbitrary_bit()` (R12, R36). -/
def State.drawFlag (s : State) (g : Flag) : State := s.draw.2.putFlag g s.draw.1

/-- `S.update(r8)` (R31). -/
def State.updateS (s : State) (r8 : Byte) : State := s.putFlag .s (r8.getLsbD 7)

/-- `Z.update(r8)` (R32). -/
def State.updateZ (s : State) (r8 : Byte) : State := s.putFlag .z (decide (r8 = 0))

/-- `PV.update(r8)` (R33): a copy of bit 7, for arithmetic and logic alike. -/
def State.updatePV (s : State) (r8 : Byte) : State := s.putFlag .pv (r8.getLsbD 7)

/-- `C.update(raw)` (R34): set when the exact result exceeds 255, else kept. -/
def State.updateC (s : State) (raw : Int) : State := if raw > 255 then s.setFlag .c else s

/-- The half-carry hook (R36): H becomes a draw. -/
def State.updateH (s : State) : State := s.drawFlag .h

/-- `ArithFlags(r8, raw, sub)` (R37). N is written by the subtraction family only (R35). -/
def State.arithFlags (s : State) (r8 : Byte) (raw : Int) (sub : Bool) : State :=
  let t := ((((s.updateS r8).updateZ r8).updatePV r8).updateC raw).updateH
  if sub then t.setFlag .n else t

/-- `LogicFlags(r8)` (R37). -/
def State.logicFlags (s : State) (r8 : Byte) : State :=
  ((((s.updateS r8).updateZ r8).updatePV r8).resetFlag .c).updateH.drawFlag .n

/-- H and N become draws: what the instructions of spec/46_misc_arith_rotate.md do to them (R271 to R274, R277 to R280). -/
def State.drawHN (s : State) : State := (s.drawFlag .h).drawFlag .n

/-- C written, then H and N drawn (R272 to R274, R277 to R280). -/
def State.carryFlags (s : State) (c : Bool) : State := (s.putFlag .c c).drawHN

/-- The condition predicates (R38). -/
def State.cond (s : State) : Cond → Bool
  | .nz => !s.flag .z
  | .z => s.flag .z
  | .nc => !s.flag .c
  | .c => s.flag .c
  | .po => !s.flag .pv
  | .pe => s.flag .pv
  | .p => !s.flag .s
  | .m => s.flag .s

/-- The condition of JR cc as one of the eight (R39). -/
def condOfJR : CondJR → Cond
  | .nz => .nz
  | .z => .z
  | .nc => .nc
  | .c => .c

end Sys2Proof.Machine
end

