-- ==== Sys2Proof/Machine/Operands.lean ====
section
/-! DEFINITION. Reading and writing every operand form (spec/10_state.md R21 to R25): the 8-bit registers, the operand a
3-bit field selects, the register pairs as views, and the operand of an accumulator operation. -/
namespace Sys2Proof.Machine

/-- `get8(name)` (R21). -/
def State.get8 (s : State) : Reg8 → Byte
  | .b => s.b
  | .c => s.c
  | .d => s.d
  | .e => s.e
  | .h => s.h
  | .l => s.l
  | .a => s.a

/-- `set8(name, value)` (R21). -/
def State.set8 (s : State) (r : Reg8) (v : Byte) : State :=
  match r with
  | .b => { s with b := v }
  | .c => { s with c := v }
  | .d => { s with d := v }
  | .e => { s with e := v }
  | .h => { s with h := v }
  | .l => { s with l := v }
  | .a => { s with a := v }

/-- `get16(pair)` (R23): the first-named register is the high byte. -/
def State.get16 (s : State) : RegQQ → Word
  | .bc => wordOf s.b s.c
  | .de => wordOf s.d s.e
  | .hl => wordOf s.h s.l
  | .af => wordOf s.a s.f

/-- `set16(pair, value)` (R23): the high byte into the first-named register, the low byte into the second. -/
def State.set16 (s : State) (p : RegQQ) (v : Word) : State :=
  match p with
  | .bc => { s with b := hiByte v, c := loByte v }
  | .de => { s with d := hiByte v, e := loByte v }
  | .hl => { s with h := hiByte v, l := loByte v }
  | .af => { s with a := hiByte v, f := loByte v }

/-- The pair BC. -/
def State.bc (s : State) : Word := s.get16 .bc

/-- The pair DE. -/
def State.de (s : State) : Word := s.get16 .de

/-- The pair HL. -/
def State.hl (s : State) : Word := s.get16 .hl

/-- The 16-bit operand `dd`/`ss` read (R25). -/
def State.getDD (s : State) : RegDD → Word
  | .bc => s.get16 .bc
  | .de => s.get16 .de
  | .hl => s.get16 .hl
  | .sp => s.sp

/-- The 16-bit operand `dd`/`ss` written (R25). -/
def State.setDD (s : State) (r : RegDD) (v : Word) : State :=
  match r with
  | .bc => s.set16 .bc v
  | .de => s.set16 .de v
  | .hl => s.set16 .hl v
  | .sp => { s with sp := v }

/-- `x[r]` read (R24). -/
def State.x (s : State) : Operand8 → Byte
  | .reg r => s.get8 r
  | .mHL => s.memRead s.hl

/-- `x[r] <- v` (R24). -/
def State.setX (s : State) (o : Operand8) (v : Byte) : State :=
  match o with
  | .reg r => s.set8 r v
  | .mHL => s.memWrite s.hl v

/-- The operand `v` of an accumulator operation (R150). -/
def State.aluOperand (s : State) : AluSrc → Byte
  | .op o => s.x o
  | .imm n => n

/-- The length of an accumulator operation: 1, or 2 for the immediate form (R150). -/
def aluLength : AluSrc → Word
  | .op _ => 1
  | .imm _ => 2

end Sys2Proof.Machine
end

