-- ==== Sys2Proof/Machine/Alu8.lean ====
section
/-! DEFINITION. The 8-bit ALU (spec/42_alu8.md R150 to R178): one shared operation per mnemonic, over any operand (R150). -/
namespace Sys2Proof.Machine

/-! ## Shared operations -/

/-- The shape of ADD, ADC, SUB and SBC (R150): the exact result wrapped into A, the flags by `ArithFlags`. -/
def aluArith (raw : Int) (sub : Bool) (len : Word) (s : State) : Result :=
  .next ((({ s with a := trunc8 raw }).arithFlags (trunc8 raw) raw sub).advance len)

/-- The shape of AND, XOR and OR (R150): the result into A, the flags by `LogicFlags`. -/
def aluLogic (r8 : Byte) (len : Word) (s : State) : Result :=
  .next ((({ s with a := r8 }).logicFlags r8).advance len)

/-- ADD (R151 to R153): raw = A + v. -/
def aluAdd (v : AluSrc) (s : State) : Result :=
  aluArith ((s.a.toNat : Int) + (s.aluOperand v).toNat) false (aluLength v) s

/-- ADC (R154 to R156): raw = A + v + F.C. -/
def aluAdc (v : AluSrc) (s : State) : Result :=
  aluArith ((s.a.toNat : Int) + (s.aluOperand v).toNat + bitNat (s.flag .c)) false (aluLength v) s

/-- SUB (R157 to R159): raw = A - v. -/
def aluSub (v : AluSrc) (s : State) : Result :=
  aluArith ((s.a.toNat : Int) - (s.aluOperand v).toNat) true (aluLength v) s

/-- SBC (R160 to R162): raw = A - v - F.C. -/
def aluSbc (v : AluSrc) (s : State) : Result :=
  aluArith ((s.a.toNat : Int) - (s.aluOperand v).toNat - bitNat (s.flag .c)) true (aluLength v) s

/-- AND (R163 to R165). -/
def aluAnd (v : AluSrc) (s : State) : Result := aluLogic (s.a &&& s.aluOperand v) (aluLength v) s

/-- XOR (R166 to R168). -/
def aluXor (v : AluSrc) (s : State) : Result := aluLogic (s.a ^^^ s.aluOperand v) (aluLength v) s

/-- OR (R169 to R171). -/
def aluOr (v : AluSrc) (s : State) : Result := aluLogic (s.a ||| s.aluOperand v) (aluLength v) s

/-- CP (R172 to R174): the flags of A - v; A is not written. -/
def aluCp (v : AluSrc) (s : State) : Result :=
  let raw : Int := (s.a.toNat : Int) - (s.aluOperand v).toNat
  .next ((s.arithFlags (trunc8 raw) raw true).advance (aluLength v))

/-- INC r and INC (HL) (R175, R176): in the addition family, so 0xFF + 1 sets C (D24). -/
def aluInc (o : Operand8) (s : State) : Result :=
  let raw : Int := (s.x o).toNat + 1
  .next (((s.setX o (trunc8 raw)).arithFlags (trunc8 raw) raw false).advance 1)

/-- DEC r and DEC (HL) (R177, R178). -/
def aluDec (o : Operand8) (s : State) : Result :=
  let raw : Int := (s.x o).toNat - 1
  .next (((s.setX o (trunc8 raw)).arithFlags (trunc8 raw) raw true).advance 1)

/-! ## The instructions -/

/-- 0x04 INC B (R175). -/
def execIncB (s : State) : Result := aluInc (.reg .b) s

/-- 0x05 DEC B (R177). -/
def execDecB (s : State) : Result := aluDec (.reg .b) s

/-- 0x0C INC C (R175). -/
def execIncC (s : State) : Result := aluInc (.reg .c) s

/-- 0x0D DEC C (R177). -/
def execDecC (s : State) : Result := aluDec (.reg .c) s

/-- 0x14 INC D (R175). -/
def execIncD (s : State) : Result := aluInc (.reg .d) s

/-- 0x15 DEC D (R177). -/
def execDecD (s : State) : Result := aluDec (.reg .d) s

/-- 0x1C INC E (R175). -/
def execIncE (s : State) : Result := aluInc (.reg .e) s

/-- 0x1D DEC E (R177). -/
def execDecE (s : State) : Result := aluDec (.reg .e) s

/-- 0x24 INC H (R175). -/
def execIncH (s : State) : Result := aluInc (.reg .h) s

/-- 0x25 DEC H (R177). -/
def execDecH (s : State) : Result := aluDec (.reg .h) s

/-- 0x2C INC L (R175). -/
def execIncL (s : State) : Result := aluInc (.reg .l) s

/-- 0x2D DEC L (R177). -/
def execDecL (s : State) : Result := aluDec (.reg .l) s

/-- 0x34 INC (HL) (R176). -/
def execIncmHL (s : State) : Result := aluInc .mHL s

/-- 0x35 DEC (HL) (R178). -/
def execDecmHL (s : State) : Result := aluDec .mHL s

/-- 0x3C INC A (R175). -/
def execIncA (s : State) : Result := aluInc (.reg .a) s

/-- 0x3D DEC A (R177). -/
def execDecA (s : State) : Result := aluDec (.reg .a) s

/-- 0x80 ADD A,B (R151). -/
def execAddA_B (s : State) : Result := aluAdd (.op (.reg .b)) s

/-- 0x81 ADD A,C (R151). -/
def execAddA_C (s : State) : Result := aluAdd (.op (.reg .c)) s

/-- 0x82 ADD A,D (R151). -/
def execAddA_D (s : State) : Result := aluAdd (.op (.reg .d)) s

/-- 0x83 ADD A,E (R151). -/
def execAddA_E (s : State) : Result := aluAdd (.op (.reg .e)) s

/-- 0x84 ADD A,H (R151). -/
def execAddA_H (s : State) : Result := aluAdd (.op (.reg .h)) s

/-- 0x85 ADD A,L (R151). -/
def execAddA_L (s : State) : Result := aluAdd (.op (.reg .l)) s

/-- 0x86 ADD A,(HL) (R153). -/
def execAddA_mHL (s : State) : Result := aluAdd (.op .mHL) s

/-- 0x87 ADD A,A (R151). -/
def execAddA_A (s : State) : Result := aluAdd (.op (.reg .a)) s

/-- 0x88 ADC A,B (R154). -/
def execAdcA_B (s : State) : Result := aluAdc (.op (.reg .b)) s

/-- 0x89 ADC A,C (R154). -/
def execAdcA_C (s : State) : Result := aluAdc (.op (.reg .c)) s

/-- 0x8A ADC A,D (R154). -/
def execAdcA_D (s : State) : Result := aluAdc (.op (.reg .d)) s

/-- 0x8B ADC A,E (R154). -/
def execAdcA_E (s : State) : Result := aluAdc (.op (.reg .e)) s

/-- 0x8C ADC A,H (R154). -/
def execAdcA_H (s : State) : Result := aluAdc (.op (.reg .h)) s

/-- 0x8D ADC A,L (R154). -/
def execAdcA_L (s : State) : Result := aluAdc (.op (.reg .l)) s

/-- 0x8E ADC A,(HL) (R156). -/
def execAdcA_mHL (s : State) : Result := aluAdc (.op .mHL) s

/-- 0x8F ADC A,A (R154). -/
def execAdcA_A (s : State) : Result := aluAdc (.op (.reg .a)) s

/-- 0x90 SUB B (R157). -/
def execSubB (s : State) : Result := aluSub (.op (.reg .b)) s

/-- 0x91 SUB C (R157). -/
def execSubC (s : State) : Result := aluSub (.op (.reg .c)) s

/-- 0x92 SUB D (R157). -/
def execSubD (s : State) : Result := aluSub (.op (.reg .d)) s

/-- 0x93 SUB E (R157). -/
def execSubE (s : State) : Result := aluSub (.op (.reg .e)) s

/-- 0x94 SUB H (R157). -/
def execSubH (s : State) : Result := aluSub (.op (.reg .h)) s

/-- 0x95 SUB L (R157). -/
def execSubL (s : State) : Result := aluSub (.op (.reg .l)) s

/-- 0x96 SUB (HL) (R159). -/
def execSubmHL (s : State) : Result := aluSub (.op .mHL) s

/-- 0x97 SUB A (R157). -/
def execSubA (s : State) : Result := aluSub (.op (.reg .a)) s

/-- 0x98 SBC A,B (R160). -/
def execSbcA_B (s : State) : Result := aluSbc (.op (.reg .b)) s

/-- 0x99 SBC A,C (R160). -/
def execSbcA_C (s : State) : Result := aluSbc (.op (.reg .c)) s

/-- 0x9A SBC A,D (R160). -/
def execSbcA_D (s : State) : Result := aluSbc (.op (.reg .d)) s

/-- 0x9B SBC A,E (R160). -/
def execSbcA_E (s : State) : Result := aluSbc (.op (.reg .e)) s

/-- 0x9C SBC A,H (R160). -/
def execSbcA_H (s : State) : Result := aluSbc (.op (.reg .h)) s

/-- 0x9D SBC A,L (R160). -/
def execSbcA_L (s : State) : Result := aluSbc (.op (.reg .l)) s

/-- 0x9E SBC A,(HL) (R162). -/
def execSbcA_mHL (s : State) : Result := aluSbc (.op .mHL) s

/-- 0x9F SBC A,A (R160). -/
def execSbcA_A (s : State) : Result := aluSbc (.op (.reg .a)) s

/-- 0xA0 AND B (R163). -/
def execAndB (s : State) : Result := aluAnd (.op (.reg .b)) s

/-- 0xA1 AND C (R163). -/
def execAndC (s : State) : Result := aluAnd (.op (.reg .c)) s

/-- 0xA2 AND D (R163). -/
def execAndD (s : State) : Result := aluAnd (.op (.reg .d)) s

/-- 0xA3 AND E (R163). -/
def execAndE (s : State) : Result := aluAnd (.op (.reg .e)) s

/-- 0xA4 AND H (R163). -/
def execAndH (s : State) : Result := aluAnd (.op (.reg .h)) s

/-- 0xA5 AND L (R163). -/
def execAndL (s : State) : Result := aluAnd (.op (.reg .l)) s

/-- 0xA6 AND (HL) (R165). -/
def execAndmHL (s : State) : Result := aluAnd (.op .mHL) s

/-- 0xA7 AND A (R163). -/
def execAndA (s : State) : Result := aluAnd (.op (.reg .a)) s

/-- 0xA8 XOR B (R166). -/
def execXorB (s : State) : Result := aluXor (.op (.reg .b)) s

/-- 0xA9 XOR C (R166). -/
def execXorC (s : State) : Result := aluXor (.op (.reg .c)) s

/-- 0xAA XOR D (R166). -/
def execXorD (s : State) : Result := aluXor (.op (.reg .d)) s

/-- 0xAB XOR E (R166). -/
def execXorE (s : State) : Result := aluXor (.op (.reg .e)) s

/-- 0xAC XOR H (R166). -/
def execXorH (s : State) : Result := aluXor (.op (.reg .h)) s

/-- 0xAD XOR L (R166). -/
def execXorL (s : State) : Result := aluXor (.op (.reg .l)) s

/-- 0xAE XOR (HL) (R168). -/
def execXormHL (s : State) : Result := aluXor (.op .mHL) s

/-- 0xAF XOR A (R166). -/
def execXorA (s : State) : Result := aluXor (.op (.reg .a)) s

/-- 0xB0 OR B (R169). -/
def execOrB (s : State) : Result := aluOr (.op (.reg .b)) s

/-- 0xB1 OR C (R169). -/
def execOrC (s : State) : Result := aluOr (.op (.reg .c)) s

/-- 0xB2 OR D (R169). -/
def execOrD (s : State) : Result := aluOr (.op (.reg .d)) s

/-- 0xB3 OR E (R169). -/
def execOrE (s : State) : Result := aluOr (.op (.reg .e)) s

/-- 0xB4 OR H (R169). -/
def execOrH (s : State) : Result := aluOr (.op (.reg .h)) s

/-- 0xB5 OR L (R169). -/
def execOrL (s : State) : Result := aluOr (.op (.reg .l)) s

/-- 0xB6 OR (HL) (R171). -/
def execOrmHL (s : State) : Result := aluOr (.op .mHL) s

/-- 0xB7 OR A (R169). -/
def execOrA (s : State) : Result := aluOr (.op (.reg .a)) s

/-- 0xB8 CP B (R172). -/
def execCpB (s : State) : Result := aluCp (.op (.reg .b)) s

/-- 0xB9 CP C (R172). -/
def execCpC (s : State) : Result := aluCp (.op (.reg .c)) s

/-- 0xBA CP D (R172). -/
def execCpD (s : State) : Result := aluCp (.op (.reg .d)) s

/-- 0xBB CP E (R172). -/
def execCpE (s : State) : Result := aluCp (.op (.reg .e)) s

/-- 0xBC CP H (R172). -/
def execCpH (s : State) : Result := aluCp (.op (.reg .h)) s

/-- 0xBD CP L (R172). -/
def execCpL (s : State) : Result := aluCp (.op (.reg .l)) s

/-- 0xBE CP (HL) (R174). -/
def execCpmHL (s : State) : Result := aluCp (.op .mHL) s

/-- 0xBF CP A (R172). -/
def execCpA (s : State) : Result := aluCp (.op (.reg .a)) s

/-- 0xC6 ADD A,n (R152). -/
def execAddA_n (n : Byte) (s : State) : Result := aluAdd (.imm n) s

/-- 0xCE ADC A,n (R155). -/
def execAdcA_n (n : Byte) (s : State) : Result := aluAdc (.imm n) s

/-- 0xD6 SUB n (R158). -/
def execSub_n (n : Byte) (s : State) : Result := aluSub (.imm n) s

/-- 0xDE SBC A,n (R161). -/
def execSbcA_n (n : Byte) (s : State) : Result := aluSbc (.imm n) s

/-- 0xE6 AND n (R164). -/
def execAnd_n (n : Byte) (s : State) : Result := aluAnd (.imm n) s

/-- 0xEE XOR n (R167). -/
def execXor_n (n : Byte) (s : State) : Result := aluXor (.imm n) s

/-- 0xF6 OR n (R170). -/
def execOr_n (n : Byte) (s : State) : Result := aluOr (.imm n) s

/-- 0xFE CP n (R173). -/
def execCp_n (n : Byte) (s : State) : Result := aluCp (.imm n) s

end Sys2Proof.Machine
end

