-- ==== Sys2Proof/Machine/ControlFlow.lean ====
section
/-! DEFINITION. The control-flow sequencer (spec/41_control_flow.md): its primitives (R120 to R124) and its instructions
(R125 to R135). -/
namespace Sys2Proof.Machine

/-! ## Shared operations -/

/-- RET_CC_SKIP (R7, R123): what a not-taken RET cc adds to pc. -/
def retCcSkip : Word := 3

/-- `jump(condition, target, instructionLength)` (R120). -/
def State.jump (s : State) (c : Bool) (target len : Word) : State := if c then s.goto target else s.advance len

/-- `relativeJump(condition, signedOffset, instructionLength)` (R121): relative to the address after the 2-byte instruction. -/
def State.relativeJump (s : State) (c : Bool) (e : Int) (len : Word) : State :=
  if c then s.goto (trunc16 ((s.pc.toNat : Int) + 2 + e)) else s.advance len

/-- `call(condition)` (R122): the address after the 3-byte CALL is pushed; `nn` was read before any write (R67). -/
def State.call (s : State) (c : Bool) (nn : Word) : State :=
  if c then (s.push16 (s.pc + 3)).goto nn else s.advance 3

/-- `ret(condition)` (R123): not taken, pc advances by RET_CC_SKIP, not by the length of RET cc. -/
def State.ret (s : State) (c : Bool) : State := if c then s.pop16.2.goto s.pop16.1 else s.advance retCcSkip

/-- `reset(vector)`, the primitive of RST (R124): SP is decremented as by any push (C5). -/
def State.restart (s : State) (vector : Word) : State := (s.push16 (s.pc + 1)).goto vector

/-- B decremented modulo 256, no flag changed (R129). -/
def State.decB (s : State) : State := { s with b := s.b - 1 }

/-! ## The instructions -/

/-- 0x10 DJNZ e (R129). -/
def execDjnz_e (e : Int) (s : State) : Result := .next (State.relativeJump (s.decB) (decide (s.decB.b ≠ 0)) e 2)

/-- 0x18 JR e (R127). -/
def execJr_e (e : Int) (s : State) : Result := .next (s.relativeJump true e 2)

/-- 0x20 JR NZ,e (R128). -/
def execJrNZ_e (e : Int) (s : State) : Result := .next (s.relativeJump (s.cond (condOfJR .nz)) e 2)

/-- 0x28 JR Z,e (R128). -/
def execJrZ_e (e : Int) (s : State) : Result := .next (s.relativeJump (s.cond (condOfJR .z)) e 2)

/-- 0x30 JR NC,e (R128). -/
def execJrNC_e (e : Int) (s : State) : Result := .next (s.relativeJump (s.cond (condOfJR .nc)) e 2)

/-- 0x38 JR C,e (R128). -/
def execJrC_e (e : Int) (s : State) : Result := .next (s.relativeJump (s.cond (condOfJR .c)) e 2)

/-- 0xC0 RET NZ (R133). -/
def execRetNZ (s : State) : Result := .next (s.ret (s.cond .nz))

/-- 0xC2 JP NZ,nn (R126). -/
def execJpNZ_nn (nn : Word) (s : State) : Result := .next (s.jump (s.cond .nz) nn 3)

/-- 0xC3 JP nn (R125). -/
def execJp_nn (nn : Word) (s : State) : Result := .next (s.jump true nn 3)

/-- 0xC4 CALL NZ,nn (R132). -/
def execCallNZ_nn (nn : Word) (s : State) : Result := .next (s.call (s.cond .nz) nn)

/-- 0xC7 RST 00H (R135). -/
def execRst00 (s : State) : Result := .next (s.restart 0x0000)

/-- 0xC8 RET Z (R133). -/
def execRetZ (s : State) : Result := .next (s.ret (s.cond .z))

/-- 0xC9 RET (R134). -/
def execRet (s : State) : Result := .next (s.ret true)

/-- 0xCA JP Z,nn (R126). -/
def execJpZ_nn (nn : Word) (s : State) : Result := .next (s.jump (s.cond .z) nn 3)

/-- 0xCC CALL Z,nn (R132). -/
def execCallZ_nn (nn : Word) (s : State) : Result := .next (s.call (s.cond .z) nn)

/-- 0xCD CALL nn (R131). -/
def execCall_nn (nn : Word) (s : State) : Result := .next (s.call true nn)

/-- 0xCF RST 08H (R135). -/
def execRst08 (s : State) : Result := .next (s.restart 0x0008)

/-- 0xD0 RET NC (R133). -/
def execRetNC (s : State) : Result := .next (s.ret (s.cond .nc))

/-- 0xD2 JP NC,nn (R126). -/
def execJpNC_nn (nn : Word) (s : State) : Result := .next (s.jump (s.cond .nc) nn 3)

/-- 0xD4 CALL NC,nn (R132). -/
def execCallNC_nn (nn : Word) (s : State) : Result := .next (s.call (s.cond .nc) nn)

/-- 0xD7 RST 10H (R135). -/
def execRst10 (s : State) : Result := .next (s.restart 0x0010)

/-- 0xD8 RET C (R133). -/
def execRetC (s : State) : Result := .next (s.ret (s.cond .c))

/-- 0xDA JP C,nn (R126). -/
def execJpC_nn (nn : Word) (s : State) : Result := .next (s.jump (s.cond .c) nn 3)

/-- 0xDC CALL C,nn (R132). -/
def execCallC_nn (nn : Word) (s : State) : Result := .next (s.call (s.cond .c) nn)

/-- 0xDF RST 18H (R135). -/
def execRst18 (s : State) : Result := .next (s.restart 0x0018)

/-- 0xE0 RET PO (R133). -/
def execRetPO (s : State) : Result := .next (s.ret (s.cond .po))

/-- 0xE2 JP PO,nn (R126). -/
def execJpPO_nn (nn : Word) (s : State) : Result := .next (s.jump (s.cond .po) nn 3)

/-- 0xE4 CALL PO,nn (R132). -/
def execCallPO_nn (nn : Word) (s : State) : Result := .next (s.call (s.cond .po) nn)

/-- 0xE7 RST 20H (R135). -/
def execRst20 (s : State) : Result := .next (s.restart 0x0020)

/-- 0xE8 RET PE (R133). -/
def execRetPE (s : State) : Result := .next (s.ret (s.cond .pe))

/-- 0xE9 JP (HL) (R130). -/
def execJpHL (s : State) : Result := .next (s.goto s.hl)

/-- 0xEA JP PE,nn (R126). -/
def execJpPE_nn (nn : Word) (s : State) : Result := .next (s.jump (s.cond .pe) nn 3)

/-- 0xEC CALL PE,nn (R132). -/
def execCallPE_nn (nn : Word) (s : State) : Result := .next (s.call (s.cond .pe) nn)

/-- 0xEF RST 28H (R135). -/
def execRst28 (s : State) : Result := .next (s.restart 0x0028)

/-- 0xF0 RET P (R133). -/
def execRetP (s : State) : Result := .next (s.ret (s.cond .p))

/-- 0xF2 JP P,nn (R126). -/
def execJpP_nn (nn : Word) (s : State) : Result := .next (s.jump (s.cond .p) nn 3)

/-- 0xF4 CALL P,nn (R132). -/
def execCallP_nn (nn : Word) (s : State) : Result := .next (s.call (s.cond .p) nn)

/-- 0xF7 RST 30H (R135). -/
def execRst30 (s : State) : Result := .next (s.restart 0x0030)

/-- 0xF8 RET M (R133). -/
def execRetM (s : State) : Result := .next (s.ret (s.cond .m))

/-- 0xFA JP M,nn (R126). -/
def execJpM_nn (nn : Word) (s : State) : Result := .next (s.jump (s.cond .m) nn 3)

/-- 0xFC CALL M,nn (R132). -/
def execCallM_nn (nn : Word) (s : State) : Result := .next (s.call (s.cond .m) nn)

/-- 0xFF RST 38H (R135). -/
def execRst38 (s : State) : Result := .next (s.restart 0x0038)

end Sys2Proof.Machine
end

