-- ==== Sys2Proof/Machine/Dispatcher.lean ====
section
/-! DEFINITION. NOP, HALT, DI and EI (spec/40_dispatch.md R105 to R108). -/
namespace Sys2Proof.Machine

/-- 0x00 NOP (R105). -/
def execNop (s : State) : Result := .next (s.advance 1)

/-- 0x76 HALT (R106). -/
def execHalt (s : State) : Result := .next (s.goto s.pc)

/-- 0xF3 DI (R107). -/
def execDi (s : State) : Result := .next (s.advance 1)

/-- 0xFB EI (R108). -/
def execEi (s : State) : Result := .next (s.advance 1)

end Sys2Proof.Machine
end

