-- ==== Sys2Proof/Machine/Io.lean ====
section
/-! DEFINITION. IN A,(n) and OUT (n),A (spec/47_io.md R301, R302). -/
namespace Sys2Proof.Machine

/-! ## Shared operations -/

/-- IN A,(n) (R301): the port into A, or the fault recorded and nothing else written. -/
def input (n : Byte) (s : State) : Result :=
  match s.portRead n with
  | .ok v => .next ((s.set8 .a v).advance 2)
  | .error x => .next (s.raise x)

/-- OUT (n),A (R302): A into the port, or the fault recorded and nothing else written. -/
def output (n : Byte) (s : State) : Result :=
  match s.portWrite n s.a with
  | .ok t => .next (t.advance 2)
  | .error x => .next (s.raise x)

/-! ## The instructions -/

/-- 0xD3 OUT (n),A (R302). -/
def execOutmn_A (n : Byte) (s : State) : Result := output n s

/-- 0xDB IN A,(n) (R301). -/
def execInA_mn (n : Byte) (s : State) : Result := input n s

end Sys2Proof.Machine
end

