-- ==== Sys2Proof/Machine/Load16.lean ====
section
/-! DEFINITION. The 16-bit loads, the stack instructions and the exchanges (spec/45_load16_stack.md R240 to R249). -/
namespace Sys2Proof.Machine

/-! ## Shared operations -/

/-- PUSH qq (R244). -/
def push (p : RegQQ) (s : State) : Result := .next ((s.push16 (s.get16 p)).advance 1)

/-- POP qq (R245): for AF all eight bits of F are loaded. -/
def pop (p : RegQQ) (s : State) : Result := .next ((s.pop16.2.set16 p s.pop16.1).advance 1)

/-- HL exchanged with the word at SP (R247): both bytes are read before either is written. -/
def exchangeSP (s : State) : State :=
  ((s.memWrite s.sp s.l).memWrite (s.sp + 1) s.h).set16 .hl (s.memRead16 s.sp)

/-! ## The instructions -/

/-- 0x01 LD BC,nn (R240). -/
def execLdBC_nn (nn : Word) (s : State) : Result := .next ((s.setDD .bc nn).advance 3)

/-- 0x08 EX AF,AF' (R248). -/
def execExAF_AF (s : State) : Result := .next (s.raise (.unmodelledOpcode s.pc 0x08))

/-- 0x11 LD DE,nn (R240). -/
def execLdDE_nn (nn : Word) (s : State) : Result := .next ((s.setDD .de nn).advance 3)

/-- 0x21 LD HL,nn (R240). -/
def execLdHL_nn (nn : Word) (s : State) : Result := .next ((s.setDD .hl nn).advance 3)

/-- 0x22 LD (nn),HL (R242). -/
def execLdmnn_HL (nn : Word) (s : State) : Result := .next ((s.memWrite16 nn s.hl).advance 3)

/-- 0x2A LD HL,(nn) (R241). -/
def execLdHL_mnn (nn : Word) (s : State) : Result := .next ((s.set16 .hl (s.memRead16 nn)).advance 3)

/-- 0x31 LD SP,nn (R240). -/
def execLdSP_nn (nn : Word) (s : State) : Result := .next ((s.setDD .sp nn).advance 3)

/-- 0xC1 POP BC (R245). -/
def execPopBC (s : State) : Result := pop .bc s

/-- 0xC5 PUSH BC (R244). -/
def execPushBC (s : State) : Result := push .bc s

/-- 0xD1 POP DE (R245). -/
def execPopDE (s : State) : Result := pop .de s

/-- 0xD5 PUSH DE (R244). -/
def execPushDE (s : State) : Result := push .de s

/-- 0xD9 EXX (R249). -/
def execExx (s : State) : Result := .next (s.raise (.unmodelledOpcode s.pc 0xD9))

/-- 0xE1 POP HL (R245). -/
def execPopHL (s : State) : Result := pop .hl s

/-- 0xE3 EX (SP),HL (R247). -/
def execExmSP_HL (s : State) : Result := .next ((exchangeSP s).advance 1)

/-- 0xE5 PUSH HL (R244). -/
def execPushHL (s : State) : Result := push .hl s

/-- 0xEB EX DE,HL (R246). -/
def execExDE_HL (s : State) : Result := .next (((s.set16 .de s.hl).set16 .hl s.de).advance 1)

/-- 0xF1 POP AF (R245). -/
def execPopAF (s : State) : Result := pop .af s

/-- 0xF5 PUSH AF (R244). -/
def execPushAF (s : State) : Result := push .af s

/-- 0xF9 LD SP,HL (R243). -/
def execLdSP_HL (s : State) : Result := .next (({ s with sp := s.hl }).advance 1)

end Sys2Proof.Machine
end

