-- ==== Sys2Proof/Machine/Load8.lean ====
section
/-! DEFINITION. The 8-bit loads (spec/44_load8.md R210 to R220). None changes a flag and none can fault. -/
namespace Sys2Proof.Machine

/-! ## Shared operations -/

/-- LD r,r', LD r,(HL), LD (HL),r (R210, R212, R213): the source read before the destination is written. -/
def loadByte (dst src : Operand8) (s : State) : Result := .next ((s.setX dst (s.x src)).advance 1)

/-! ## The instructions -/

/-- 0x02 LD (BC),A (R218). -/
def execLdmBC_A (s : State) : Result := .next ((s.memWrite s.bc s.a).advance 1)

/-- 0x06 LD B,n (R211). -/
def execLdB_n (n : Byte) (s : State) : Result := .next ((s.setX (.reg .b) n).advance 2)

/-- 0x0A LD A,(BC) (R215). -/
def execLdA_mBC (s : State) : Result := .next ((s.set8 .a (s.memRead s.bc)).advance 1)

/-- 0x0E LD C,n (R211). -/
def execLdC_n (n : Byte) (s : State) : Result := .next ((s.setX (.reg .c) n).advance 2)

/-- 0x12 LD (DE),A (R219). -/
def execLdmDE_A (s : State) : Result := .next ((s.memWrite s.de s.a).advance 1)

/-- 0x16 LD D,n (R211). -/
def execLdD_n (n : Byte) (s : State) : Result := .next ((s.setX (.reg .d) n).advance 2)

/-- 0x1A LD A,(DE) (R216). -/
def execLdA_mDE (s : State) : Result := .next ((s.set8 .a (s.memRead s.de)).advance 1)

/-- 0x1E LD E,n (R211). -/
def execLdE_n (n : Byte) (s : State) : Result := .next ((s.setX (.reg .e) n).advance 2)

/-- 0x26 LD H,n (R211). -/
def execLdH_n (n : Byte) (s : State) : Result := .next ((s.setX (.reg .h) n).advance 2)

/-- 0x2E LD L,n (R211). -/
def execLdL_n (n : Byte) (s : State) : Result := .next ((s.setX (.reg .l) n).advance 2)

/-- 0x32 LD (nn),A (R220). -/
def execLdmnn_A (nn : Word) (s : State) : Result := .next ((s.memWrite nn s.a).advance 3)

/-- 0x36 LD (HL),n (R214). -/
def execLdmHL_n (n : Byte) (s : State) : Result := .next ((s.setX .mHL n).advance 2)

/-- 0x3A LD A,(nn) (R217). -/
def execLdA_mnn (nn : Word) (s : State) : Result := .next ((s.set8 .a (s.memRead nn)).advance 3)

/-- 0x3E LD A,n (R211). -/
def execLdA_n (n : Byte) (s : State) : Result := .next ((s.setX (.reg .a) n).advance 2)

/-- 0x40 LD B,B (R210). -/
def execLdB_B (s : State) : Result := loadByte (.reg .b) (.reg .b) s

/-- 0x41 LD B,C (R210). -/
def execLdB_C (s : State) : Result := loadByte (.reg .b) (.reg .c) s

/-- 0x42 LD B,D (R210). -/
def execLdB_D (s : State) : Result := loadByte (.reg .b) (.reg .d) s

/-- 0x43 LD B,E (R210). -/
def execLdB_E (s : State) : Result := loadByte (.reg .b) (.reg .e) s

/-- 0x44 LD B,H (R210). -/
def execLdB_H (s : State) : Result := loadByte (.reg .b) (.reg .h) s

/-- 0x45 LD B,L (R210). -/
def execLdB_L (s : State) : Result := loadByte (.reg .b) (.reg .l) s

/-- 0x46 LD B,(HL) (R212). -/
def execLdB_mHL (s : State) : Result := loadByte (.reg .b) .mHL s

/-- 0x47 LD B,A (R210). -/
def execLdB_A (s : State) : Result := loadByte (.reg .b) (.reg .a) s

/-- 0x48 LD C,B (R210). -/
def execLdC_B (s : State) : Result := loadByte (.reg .c) (.reg .b) s

/-- 0x49 LD C,C (R210). -/
def execLdC_C (s : State) : Result := loadByte (.reg .c) (.reg .c) s

/-- 0x4A LD C,D (R210). -/
def execLdC_D (s : State) : Result := loadByte (.reg .c) (.reg .d) s

/-- 0x4B LD C,E (R210). -/
def execLdC_E (s : State) : Result := loadByte (.reg .c) (.reg .e) s

/-- 0x4C LD C,H (R210). -/
def execLdC_H (s : State) : Result := loadByte (.reg .c) (.reg .h) s

/-- 0x4D LD C,L (R210). -/
def execLdC_L (s : State) : Result := loadByte (.reg .c) (.reg .l) s

/-- 0x4E LD C,(HL) (R212). -/
def execLdC_mHL (s : State) : Result := loadByte (.reg .c) .mHL s

/-- 0x4F LD C,A (R210). -/
def execLdC_A (s : State) : Result := loadByte (.reg .c) (.reg .a) s

/-- 0x50 LD D,B (R210). -/
def execLdD_B (s : State) : Result := loadByte (.reg .d) (.reg .b) s

/-- 0x51 LD D,C (R210). -/
def execLdD_C (s : State) : Result := loadByte (.reg .d) (.reg .c) s

/-- 0x52 LD D,D (R210). -/
def execLdD_D (s : State) : Result := loadByte (.reg .d) (.reg .d) s

/-- 0x53 LD D,E (R210). -/
def execLdD_E (s : State) : Result := loadByte (.reg .d) (.reg .e) s

/-- 0x54 LD D,H (R210). -/
def execLdD_H (s : State) : Result := loadByte (.reg .d) (.reg .h) s

/-- 0x55 LD D,L (R210). -/
def execLdD_L (s : State) : Result := loadByte (.reg .d) (.reg .l) s

/-- 0x56 LD D,(HL) (R212). -/
def execLdD_mHL (s : State) : Result := loadByte (.reg .d) .mHL s

/-- 0x57 LD D,A (R210). -/
def execLdD_A (s : State) : Result := loadByte (.reg .d) (.reg .a) s

/-- 0x58 LD E,B (R210). -/
def execLdE_B (s : State) : Result := loadByte (.reg .e) (.reg .b) s

/-- 0x59 LD E,C (R210). -/
def execLdE_C (s : State) : Result := loadByte (.reg .e) (.reg .c) s

/-- 0x5A LD E,D (R210). -/
def execLdE_D (s : State) : Result := loadByte (.reg .e) (.reg .d) s

/-- 0x5B LD E,E (R210). -/
def execLdE_E (s : State) : Result := loadByte (.reg .e) (.reg .e) s

/-- 0x5C LD E,H (R210). -/
def execLdE_H (s : State) : Result := loadByte (.reg .e) (.reg .h) s

/-- 0x5D LD E,L (R210). -/
def execLdE_L (s : State) : Result := loadByte (.reg .e) (.reg .l) s

/-- 0x5E LD E,(HL) (R212). -/
def execLdE_mHL (s : State) : Result := loadByte (.reg .e) .mHL s

/-- 0x5F LD E,A (R210). -/
def execLdE_A (s : State) : Result := loadByte (.reg .e) (.reg .a) s

/-- 0x60 LD H,B (R210). -/
def execLdH_B (s : State) : Result := loadByte (.reg .h) (.reg .b) s

/-- 0x61 LD H,C (R210). -/
def execLdH_C (s : State) : Result := loadByte (.reg .h) (.reg .c) s

/-- 0x62 LD H,D (R210). -/
def execLdH_D (s : State) : Result := loadByte (.reg .h) (.reg .d) s

/-- 0x63 LD H,E (R210). -/
def execLdH_E (s : State) : Result := loadByte (.reg .h) (.reg .e) s

/-- 0x64 LD H,H (R210). -/
def execLdH_H (s : State) : Result := loadByte (.reg .h) (.reg .h) s

/-- 0x65 LD H,L (R210). -/
def execLdH_L (s : State) : Result := loadByte (.reg .h) (.reg .l) s

/-- 0x66 LD H,(HL) (R212). -/
def execLdH_mHL (s : State) : Result := loadByte (.reg .h) .mHL s

/-- 0x67 LD H,A (R210). -/
def execLdH_A (s : State) : Result := loadByte (.reg .h) (.reg .a) s

/-- 0x68 LD L,B (R210). -/
def execLdL_B (s : State) : Result := loadByte (.reg .l) (.reg .b) s

/-- 0x69 LD L,C (R210). -/
def execLdL_C (s : State) : Result := loadByte (.reg .l) (.reg .c) s

/-- 0x6A LD L,D (R210). -/
def execLdL_D (s : State) : Result := loadByte (.reg .l) (.reg .d) s

/-- 0x6B LD L,E (R210). -/
def execLdL_E (s : State) : Result := loadByte (.reg .l) (.reg .e) s

/-- 0x6C LD L,H (R210). -/
def execLdL_H (s : State) : Result := loadByte (.reg .l) (.reg .h) s

/-- 0x6D LD L,L (R210). -/
def execLdL_L (s : State) : Result := loadByte (.reg .l) (.reg .l) s

/-- 0x6E LD L,(HL) (R212). -/
def execLdL_mHL (s : State) : Result := loadByte (.reg .l) .mHL s

/-- 0x6F LD L,A (R210). -/
def execLdL_A (s : State) : Result := loadByte (.reg .l) (.reg .a) s

/-- 0x70 LD (HL),B (R213). -/
def execLdmHL_B (s : State) : Result := loadByte .mHL (.reg .b) s

/-- 0x71 LD (HL),C (R213). -/
def execLdmHL_C (s : State) : Result := loadByte .mHL (.reg .c) s

/-- 0x72 LD (HL),D (R213). -/
def execLdmHL_D (s : State) : Result := loadByte .mHL (.reg .d) s

/-- 0x73 LD (HL),E (R213). -/
def execLdmHL_E (s : State) : Result := loadByte .mHL (.reg .e) s

/-- 0x74 LD (HL),H (R213). -/
def execLdmHL_H (s : State) : Result := loadByte .mHL (.reg .h) s

/-- 0x75 LD (HL),L (R213). -/
def execLdmHL_L (s : State) : Result := loadByte .mHL (.reg .l) s

/-- 0x77 LD (HL),A (R213). -/
def execLdmHL_A (s : State) : Result := loadByte .mHL (.reg .a) s

/-- 0x78 LD A,B (R210). -/
def execLdA_B (s : State) : Result := loadByte (.reg .a) (.reg .b) s

/-- 0x79 LD A,C (R210). -/
def execLdA_C (s : State) : Result := loadByte (.reg .a) (.reg .c) s

/-- 0x7A LD A,D (R210). -/
def execLdA_D (s : State) : Result := loadByte (.reg .a) (.reg .d) s

/-- 0x7B LD A,E (R210). -/
def execLdA_E (s : State) : Result := loadByte (.reg .a) (.reg .e) s

/-- 0x7C LD A,H (R210). -/
def execLdA_H (s : State) : Result := loadByte (.reg .a) (.reg .h) s

/-- 0x7D LD A,L (R210). -/
def execLdA_L (s : State) : Result := loadByte (.reg .a) (.reg .l) s

/-- 0x7E LD A,(HL) (R212). -/
def execLdA_mHL (s : State) : Result := loadByte (.reg .a) .mHL s

/-- 0x7F LD A,A (R210). -/
def execLdA_A (s : State) : Result := loadByte (.reg .a) (.reg .a) s

end Sys2Proof.Machine
end

