-- ==== Sys2Proof/Machine/Misc.lean ====
section
/-! DEFINITION. Accumulator and flag operations, 16-bit arithmetic, rotates (spec/46_misc_arith_rotate.md R270 to R280). -/
namespace Sys2Proof.Machine

/-! ## Shared operations -/

/-- ADD HL,ss (R274): C is the carry out of bit 15, written both ways. -/
def addHL (r : RegDD) (s : State) : Result :=
  let raw : Nat := s.hl.toNat + (s.getDD r).toNat
  .next (((s.set16 .hl (trunc16 raw)).carryFlags (decide (raw > 0xFFFF))).advance 1)

/-- The shape of the accumulator rotates (R277 to R280): the new A, and the bit that left it into C. -/
def rotate (c : Bool) (r8 : Byte) (s : State) : Result := .next ((({ s with a := r8 }).carryFlags c).advance 1)

/-! ## The instructions -/

/-- 0x03 INC BC (R275). -/
def execIncBC (s : State) : Result := .next ((s.setDD .bc (s.getDD .bc + 1)).advance 1)

/-- 0x07 RLCA (R277). -/
def execRlca (s : State) : Result := rotate (s.a.getLsbD 7) ((s.a <<< 1) ||| bitByte (s.a.getLsbD 7)) s

/-- 0x09 ADD HL,BC (R274). -/
def execAddHL_BC (s : State) : Result := addHL .bc s

/-- 0x0B DEC BC (R276). -/
def execDecBC (s : State) : Result := .next ((s.setDD .bc (s.getDD .bc - 1)).advance 1)

/-- 0x0F RRCA (R278). -/
def execRrca (s : State) : Result := rotate (s.a.getLsbD 0) ((s.a >>> 1) ||| (bitByte (s.a.getLsbD 0) <<< 7)) s

/-- 0x13 INC DE (R275). -/
def execIncDE (s : State) : Result := .next ((s.setDD .de (s.getDD .de + 1)).advance 1)

/-- 0x17 RLA (R279). -/
def execRla (s : State) : Result := rotate (s.a.getLsbD 7) ((s.a <<< 1) ||| bitByte (s.flag .c)) s

/-- 0x19 ADD HL,DE (R274). -/
def execAddHL_DE (s : State) : Result := addHL .de s

/-- 0x1B DEC DE (R276). -/
def execDecDE (s : State) : Result := .next ((s.setDD .de (s.getDD .de - 1)).advance 1)

/-- 0x1F RRA (R280). -/
def execRra (s : State) : Result := rotate (s.a.getLsbD 0) ((s.a >>> 1) ||| (bitByte (s.flag .c) <<< 7)) s

/-- 0x23 INC HL (R275). -/
def execIncHL (s : State) : Result := .next ((s.setDD .hl (s.getDD .hl + 1)).advance 1)

/-- 0x27 DAA (R270). -/
def execDaa (s : State) : Result := .next (s.raise (.unmodelledOpcode s.pc 0x27))

/-- 0x29 ADD HL,HL (R274). -/
def execAddHL_HL (s : State) : Result := addHL .hl s

/-- 0x2B DEC HL (R276). -/
def execDecHL (s : State) : Result := .next ((s.setDD .hl (s.getDD .hl - 1)).advance 1)

/-- 0x2F CPL (R271). -/
def execCpl (s : State) : Result := .next (({ s with a := ~~~s.a }).drawHN.advance 1)

/-- 0x33 INC SP (R275). -/
def execIncSP (s : State) : Result := .next ((s.setDD .sp (s.getDD .sp + 1)).advance 1)

/-- 0x37 SCF (R272). -/
def execScf (s : State) : Result := .next ((s.carryFlags true).advance 1)

/-- 0x39 ADD HL,SP (R274). -/
def execAddHL_SP (s : State) : Result := addHL .sp s

/-- 0x3B DEC SP (R276). -/
def execDecSP (s : State) : Result := .next ((s.setDD .sp (s.getDD .sp - 1)).advance 1)

/-- 0x3F CCF (R273). -/
def execCcf (s : State) : Result := .next ((s.carryFlags (!s.flag .c)).advance 1)

end Sys2Proof.Machine
end

