-- ==== Sys2Proof/Machine/Prefixes.lean ====
section
/-! DEFINITION. The four prefix bytes (spec/43_prefix_hooks.md R200 to R204) and the hook each calls, here the default that
does nothing (R200, R207; notes/assumptions/13.md). -/
namespace Sys2Proof.Machine

/-! ## Shared operations -/

/-- PREFIX_HOOK_CB at its default (R200, R201). -/
def hookCB (_op : Byte) (s : State) : State := s

/-- PREFIX_HOOK_DD at its default (R200, R202). -/
def hookDD (_op : Byte) (s : State) : State := s

/-- PREFIX_HOOK_ED at its default (R200, R203). -/
def hookED (_op : Byte) (s : State) : State := s

/-- PREFIX_HOOK_FD at its default (R200, R204). -/
def hookFD (_op : Byte) (s : State) : State := s

/-! ## The instructions -/

/-- 0xCB CB prefix (R201). -/
def execCbPrefix (s : State) : Result := .next ((hookCB 0xCB s).advance 1)

/-- 0xDD DD prefix (R202). -/
def execDdPrefix (s : State) : Result := .next ((hookDD 0xDD s).advance 1)

/-- 0xED ED prefix (R203). -/
def execEdPrefix (s : State) : Result := .next ((hookED 0xED s).advance 1)

/-- 0xFD FD prefix (R204). -/
def execFdPrefix (s : State) : Result := .next ((hookFD 0xFD s).advance 1)

end Sys2Proof.Machine
end

