-- ==== Sys2Proof/Machine/Dispatch.lean ====
section
/-! DEFINITION. The dispatcher (spec/40_dispatch.md R101): exactly one handler per instruction. -/
namespace Sys2Proof.Machine

def exec (i : Instr) (s : State) : Host.Outcome State Fault Refusal :=
  match i with
  | .nop => Sys2Proof.Machine.execNop s
  | .ldBC_nn nn => Sys2Proof.Machine.execLdBC_nn nn s
  | .ldmBC_A => Sys2Proof.Machine.execLdmBC_A s
  | .incBC => Sys2Proof.Machine.execIncBC s
  | .incB => Sys2Proof.Machine.execIncB s
  | .decB => Sys2Proof.Machine.execDecB s
  | .ldB_n n => Sys2Proof.Machine.execLdB_n n s
  | .rlca => Sys2Proof.Machine.execRlca s
  | .exAF_AF => Sys2Proof.Machine.execExAF_AF s
  | .addHL_BC => Sys2Proof.Machine.execAddHL_BC s
  | .ldA_mBC => Sys2Proof.Machine.execLdA_mBC s
  | .decBC => Sys2Proof.Machine.execDecBC s
  | .incC => Sys2Proof.Machine.execIncC s
  | .decC => Sys2Proof.Machine.execDecC s
  | .ldC_n n => Sys2Proof.Machine.execLdC_n n s
  | .rrca => Sys2Proof.Machine.execRrca s
  | .djnz_e e => Sys2Proof.Machine.execDjnz_e e s
  | .ldDE_nn nn => Sys2Proof.Machine.execLdDE_nn nn s
  | .ldmDE_A => Sys2Proof.Machine.execLdmDE_A s
  | .incDE => Sys2Proof.Machine.execIncDE s
  | .incD => Sys2Proof.Machine.execIncD s
  | .decD => Sys2Proof.Machine.execDecD s
  | .ldD_n n => Sys2Proof.Machine.execLdD_n n s
  | .rla => Sys2Proof.Machine.execRla s
  | .jr_e e => Sys2Proof.Machine.execJr_e e s
  | .addHL_DE => Sys2Proof.Machine.execAddHL_DE s
  | .ldA_mDE => Sys2Proof.Machine.execLdA_mDE s
  | .decDE => Sys2Proof.Machine.execDecDE s
  | .incE => Sys2Proof.Machine.execIncE s
  | .decE => Sys2Proof.Machine.execDecE s
  | .ldE_n n => Sys2Proof.Machine.execLdE_n n s
  | .rra => Sys2Proof.Machine.execRra s
  | .jrNZ_e e => Sys2Proof.Machine.execJrNZ_e e s
  | .ldHL_nn nn => Sys2Proof.Machine.execLdHL_nn nn s
  | .ldmnn_HL nn => Sys2Proof.Machine.execLdmnn_HL nn s
  | .incHL => Sys2Proof.Machine.execIncHL s
  | .incH => Sys2Proof.Machine.execIncH s
  | .decH => Sys2Proof.Machine.execDecH s
  | .ldH_n n => Sys2Proof.Machine.execLdH_n n s
  | .daa => Sys2Proof.Machine.execDaa s
  | .jrZ_e e => Sys2Proof.Machine.execJrZ_e e s
  | .addHL_HL => Sys2Proof.Machine.execAddHL_HL s
  | .ldHL_mnn nn => Sys2Proof.Machine.execLdHL_mnn nn s
  | .decHL => Sys2Proof.Machine.execDecHL s
  | .incL => Sys2Proof.Machine.execIncL s
  | .decL => Sys2Proof.Machine.execDecL s
  | .ldL_n n => Sys2Proof.Machine.execLdL_n n s
  | .cpl => Sys2Proof.Machine.execCpl s
  | .jrNC_e e => Sys2Proof.Machine.execJrNC_e e s
  | .ldSP_nn nn => Sys2Proof.Machine.execLdSP_nn nn s
  | .ldmnn_A nn => Sys2Proof.Machine.execLdmnn_A nn s
  | .incSP => Sys2Proof.Machine.execIncSP s
  | .incmHL => Sys2Proof.Machine.execIncmHL s
  | .decmHL => Sys2Proof.Machine.execDecmHL s
  | .ldmHL_n n => Sys2Proof.Machine.execLdmHL_n n s
  | .scf => Sys2Proof.Machine.execScf s
  | .jrC_e e => Sys2Proof.Machine.execJrC_e e s
  | .addHL_SP => Sys2Proof.Machine.execAddHL_SP s
  | .ldA_mnn nn => Sys2Proof.Machine.execLdA_mnn nn s
  | .decSP => Sys2Proof.Machine.execDecSP s
  | .incA => Sys2Proof.Machine.execIncA s
  | .decA => Sys2Proof.Machine.execDecA s
  | .ldA_n n => Sys2Proof.Machine.execLdA_n n s
  | .ccf => Sys2Proof.Machine.execCcf s
  | .ldB_B => Sys2Proof.Machine.execLdB_B s
  | .ldB_C => Sys2Proof.Machine.execLdB_C s
  | .ldB_D => Sys2Proof.Machine.execLdB_D s
  | .ldB_E => Sys2Proof.Machine.execLdB_E s
  | .ldB_H => Sys2Proof.Machine.execLdB_H s
  | .ldB_L => Sys2Proof.Machine.execLdB_L s
  | .ldB_mHL => Sys2Proof.Machine.execLdB_mHL s
  | .ldB_A => Sys2Proof.Machine.execLdB_A s
  | .ldC_B => Sys2Proof.Machine.execLdC_B s
  | .ldC_C => Sys2Proof.Machine.execLdC_C s
  | .ldC_D => Sys2Proof.Machine.execLdC_D s
  | .ldC_E => Sys2Proof.Machine.execLdC_E s
  | .ldC_H => Sys2Proof.Machine.execLdC_H s
  | .ldC_L => Sys2Proof.Machine.execLdC_L s
  | .ldC_mHL => Sys2Proof.Machine.execLdC_mHL s
  | .ldC_A => Sys2Proof.Machine.execLdC_A s
  | .ldD_B => Sys2Proof.Machine.execLdD_B s
  | .ldD_C => Sys2Proof.Machine.execLdD_C s
  | .ldD_D => Sys2Proof.Machine.execLdD_D s
  | .ldD_E => Sys2Proof.Machine.execLdD_E s
  | .ldD_H => Sys2Proof.Machine.execLdD_H s
  | .ldD_L => Sys2Proof.Machine.execLdD_L s
  | .ldD_mHL => Sys2Proof.Machine.execLdD_mHL s
  | .ldD_A => Sys2Proof.Machine.execLdD_A s
  | .ldE_B => Sys2Proof.Machine.execLdE_B s
  | .ldE_C => Sys2Proof.Machine.execLdE_C s
  | .ldE_D => Sys2Proof.Machine.execLdE_D s
  | .ldE_E => Sys2Proof.Machine.execLdE_E s
  | .ldE_H => Sys2Proof.Machine.execLdE_H s
  | .ldE_L => Sys2Proof.Machine.execLdE_L s
  | .ldE_mHL => Sys2Proof.Machine.execLdE_mHL s
  | .ldE_A => Sys2Proof.Machine.execLdE_A s
  | .ldH_B => Sys2Proof.Machine.execLdH_B s
  | .ldH_C => Sys2Proof.Machine.execLdH_C s
  | .ldH_D => Sys2Proof.Machine.execLdH_D s
  | .ldH_E => Sys2Proof.Machine.execLdH_E s
  | .ldH_H => Sys2Proof.Machine.execLdH_H s
  | .ldH_L => Sys2Proof.Machine.execLdH_L s
  | .ldH_mHL => Sys2Proof.Machine.execLdH_mHL s
  | .ldH_A => Sys2Proof.Machine.execLdH_A s
  | .ldL_B => Sys2Proof.Machine.execLdL_B s
  | .ldL_C => Sys2Proof.Machine.execLdL_C s
  | .ldL_D => Sys2Proof.Machine.execLdL_D s
  | .ldL_E => Sys2Proof.Machine.execLdL_E s
  | .ldL_H => Sys2Proof.Machine.execLdL_H s
  | .ldL_L => Sys2Proof.Machine.execLdL_L s
  | .ldL_mHL => Sys2Proof.Machine.execLdL_mHL s
  | .ldL_A => Sys2Proof.Machine.execLdL_A s
  | .ldmHL_B => Sys2Proof.Machine.execLdmHL_B s
  | .ldmHL_C => Sys2Proof.Machine.execLdmHL_C s
  | .ldmHL_D => Sys2Proof.Machine.execLdmHL_D s
  | .ldmHL_E => Sys2Proof.Machine.execLdmHL_E s
  | .ldmHL_H => Sys2Proof.Machine.execLdmHL_H s
  | .ldmHL_L => Sys2Proof.Machine.execLdmHL_L s
  | .halt => Sys2Proof.Machine.execHalt s
  | .ldmHL_A => Sys2Proof.Machine.execLdmHL_A s
  | .ldA_B => Sys2Proof.Machine.execLdA_B s
  | .ldA_C => Sys2Proof.Machine.execLdA_C s
  | .ldA_D => Sys2Proof.Machine.execLdA_D s
  | .ldA_E => Sys2Proof.Machine.execLdA_E s
  | .ldA_H => Sys2Proof.Machine.execLdA_H s
  | .ldA_L => Sys2Proof.Machine.execLdA_L s
  | .ldA_mHL => Sys2Proof.Machine.execLdA_mHL s
  | .ldA_A => Sys2Proof.Machine.execLdA_A s
  | .addA_B => Sys2Proof.Machine.execAddA_B s
  | .addA_C => Sys2Proof.Machine.execAddA_C s
  | .addA_D => Sys2Proof.Machine.execAddA_D s
  | .addA_E => Sys2Proof.Machine.execAddA_E s
  | .addA_H => Sys2Proof.Machine.execAddA_H s
  | .addA_L => Sys2Proof.Machine.execAddA_L s
  | .addA_mHL => Sys2Proof.Machine.execAddA_mHL s
  | .addA_A => Sys2Proof.Machine.execAddA_A s
  | .adcA_B => Sys2Proof.Machine.execAdcA_B s
  | .adcA_C => Sys2Proof.Machine.execAdcA_C s
  | .adcA_D => Sys2Proof.Machine.execAdcA_D s
  | .adcA_E => Sys2Proof.Machine.execAdcA_E s
  | .adcA_H => Sys2Proof.Machine.execAdcA_H s
  | .adcA_L => Sys2Proof.Machine.execAdcA_L s
  | .adcA_mHL => Sys2Proof.Machine.execAdcA_mHL s
  | .adcA_A => Sys2Proof.Machine.execAdcA_A s
  | .subB => Sys2Proof.Machine.execSubB s
  | .subC => Sys2Proof.Machine.execSubC s
  | .subD => Sys2Proof.Machine.execSubD s
  | .subE => Sys2Proof.Machine.execSubE s
  | .subH => Sys2Proof.Machine.execSubH s
  | .subL => Sys2Proof.Machine.execSubL s
  | .submHL => Sys2Proof.Machine.execSubmHL s
  | .subA => Sys2Proof.Machine.execSubA s
  | .sbcA_B => Sys2Proof.Machine.execSbcA_B s
  | .sbcA_C => Sys2Proof.Machine.execSbcA_C s
  | .sbcA_D => Sys2Proof.Machine.execSbcA_D s
  | .sbcA_E => Sys2Proof.Machine.execSbcA_E s
  | .sbcA_H => Sys2Proof.Machine.execSbcA_H s
  | .sbcA_L => Sys2Proof.Machine.execSbcA_L s
  | .sbcA_mHL => Sys2Proof.Machine.execSbcA_mHL s
  | .sbcA_A => Sys2Proof.Machine.execSbcA_A s
  | .andB => Sys2Proof.Machine.execAndB s
  | .andC => Sys2Proof.Machine.execAndC s
  | .andD => Sys2Proof.Machine.execAndD s
  | .andE => Sys2Proof.Machine.execAndE s
  | .andH => Sys2Proof.Machine.execAndH s
  | .andL => Sys2Proof.Machine.execAndL s
  | .andmHL => Sys2Proof.Machine.execAndmHL s
  | .andA => Sys2Proof.Machine.execAndA s
  | .xorB => Sys2Proof.Machine.execXorB s
  | .xorC => Sys2Proof.Machine.execXorC s
  | .xorD => Sys2Proof.Machine.execXorD s
  | .xorE => Sys2Proof.Machine.execXorE s
  | .xorH => Sys2Proof.Machine.execXorH s
  | .xorL => Sys2Proof.Machine.execXorL s
  | .xormHL => Sys2Proof.Machine.execXormHL s
  | .xorA => Sys2Proof.Machine.execXorA s
  | .orB => Sys2Proof.Machine.execOrB s
  | .orC => Sys2Proof.Machine.execOrC s
  | .orD => Sys2Proof.Machine.execOrD s
  | .orE => Sys2Proof.Machine.execOrE s
  | .orH => Sys2Proof.Machine.execOrH s
  | .orL => Sys2Proof.Machine.execOrL s
  | .ormHL => Sys2Proof.Machine.execOrmHL s
  | .orA => Sys2Proof.Machine.execOrA s
  | .cpB => Sys2Proof.Machine.execCpB s
  | .cpC => Sys2Proof.Machine.execCpC s
  | .cpD => Sys2Proof.Machine.execCpD s
  | .cpE => Sys2Proof.Machine.execCpE s
  | .cpH => Sys2Proof.Machine.execCpH s
  | .cpL => Sys2Proof.Machine.execCpL s
  | .cpmHL => Sys2Proof.Machine.execCpmHL s
  | .cpA => Sys2Proof.Machine.execCpA s
  | .retNZ => Sys2Proof.Machine.execRetNZ s
  | .popBC => Sys2Proof.Machine.execPopBC s
  | .jpNZ_nn nn => Sys2Proof.Machine.execJpNZ_nn nn s
  | .jp_nn nn => Sys2Proof.Machine.execJp_nn nn s
  | .callNZ_nn nn => Sys2Proof.Machine.execCallNZ_nn nn s
  | .pushBC => Sys2Proof.Machine.execPushBC s
  | .addA_n n => Sys2Proof.Machine.execAddA_n n s
  | .rst00 => Sys2Proof.Machine.execRst00 s
  | .retZ => Sys2Proof.Machine.execRetZ s
  | .ret => Sys2Proof.Machine.execRet s
  | .jpZ_nn nn => Sys2Proof.Machine.execJpZ_nn nn s
  | .cbPrefix => Sys2Proof.Machine.execCbPrefix s
  | .callZ_nn nn => Sys2Proof.Machine.execCallZ_nn nn s
  | .call_nn nn => Sys2Proof.Machine.execCall_nn nn s
  | .adcA_n n => Sys2Proof.Machine.execAdcA_n n s
  | .rst08 => Sys2Proof.Machine.execRst08 s
  | .retNC => Sys2Proof.Machine.execRetNC s
  | .popDE => Sys2Proof.Machine.execPopDE s
  | .jpNC_nn nn => Sys2Proof.Machine.execJpNC_nn nn s
  | .outmn_A n => Sys2Proof.Machine.execOutmn_A n s
  | .callNC_nn nn => Sys2Proof.Machine.execCallNC_nn nn s
  | .pushDE => Sys2Proof.Machine.execPushDE s
  | .sub_n n => Sys2Proof.Machine.execSub_n n s
  | .rst10 => Sys2Proof.Machine.execRst10 s
  | .retC => Sys2Proof.Machine.execRetC s
  | .exx => Sys2Proof.Machine.execExx s
  | .jpC_nn nn => Sys2Proof.Machine.execJpC_nn nn s
  | .inA_mn n => Sys2Proof.Machine.execInA_mn n s
  | .callC_nn nn => Sys2Proof.Machine.execCallC_nn nn s
  | .ddPrefix => Sys2Proof.Machine.execDdPrefix s
  | .sbcA_n n => Sys2Proof.Machine.execSbcA_n n s
  | .rst18 => Sys2Proof.Machine.execRst18 s
  | .retPO => Sys2Proof.Machine.execRetPO s
  | .popHL => Sys2Proof.Machine.execPopHL s
  | .jpPO_nn nn => Sys2Proof.Machine.execJpPO_nn nn s
  | .exmSP_HL => Sys2Proof.Machine.execExmSP_HL s
  | .callPO_nn nn => Sys2Proof.Machine.execCallPO_nn nn s
  | .pushHL => Sys2Proof.Machine.execPushHL s
  | .and_n n => Sys2Proof.Machine.execAnd_n n s
  | .rst20 => Sys2Proof.Machine.execRst20 s
  | .retPE => Sys2Proof.Machine.execRetPE s
  | .jpHL => Sys2Proof.Machine.execJpHL s
  | .jpPE_nn nn => Sys2Proof.Machine.execJpPE_nn nn s
  | .exDE_HL => Sys2Proof.Machine.execExDE_HL s
  | .callPE_nn nn => Sys2Proof.Machine.execCallPE_nn nn s
  | .edPrefix => Sys2Proof.Machine.execEdPrefix s
  | .xor_n n => Sys2Proof.Machine.execXor_n n s
  | .rst28 => Sys2Proof.Machine.execRst28 s
  | .retP => Sys2Proof.Machine.execRetP s
  | .popAF => Sys2Proof.Machine.execPopAF s
  | .jpP_nn nn => Sys2Proof.Machine.execJpP_nn nn s
  | .di => Sys2Proof.Machine.execDi s
  | .callP_nn nn => Sys2Proof.Machine.execCallP_nn nn s
  | .pushAF => Sys2Proof.Machine.execPushAF s
  | .or_n n => Sys2Proof.Machine.execOr_n n s
  | .rst30 => Sys2Proof.Machine.execRst30 s
  | .retM => Sys2Proof.Machine.execRetM s
  | .ldSP_HL => Sys2Proof.Machine.execLdSP_HL s
  | .jpM_nn nn => Sys2Proof.Machine.execJpM_nn nn s
  | .ei => Sys2Proof.Machine.execEi s
  | .callM_nn nn => Sys2Proof.Machine.execCallM_nn nn s
  | .fdPrefix => Sys2Proof.Machine.execFdPrefix s
  | .cp_n n => Sys2Proof.Machine.execCp_n n s
  | .rst38 => Sys2Proof.Machine.execRst38 s

end Sys2Proof.Machine
end

