-- ==== Sys2Proof/WellFormed.lean ====
section
/-! DEFINITION. Which terms of `Instr` an encoding exists for. Registers, bytes and words fit their fields by their type;
the one operand that need not is the signed displacement of the relative jumps (spec/30_encoding.md R82: -128..127). -/
namespace Sys2Proof

/-- A displacement that one operand byte can hold (R9, R82). -/
def dispInRange (e : Int) : Bool :=
  decide (-128 ≤ e) && decide (e ≤ 127)

/-- The check on each instruction: a displacement is in range; every other operand is by its type. -/
def Instr.wf : Instr → Bool
  | .djnz_e e => dispInRange e
  | .jr_e e => dispInRange e
  | .jrNZ_e e => dispInRange e
  | .jrZ_e e => dispInRange e
  | .jrNC_e e => dispInRange e
  | .jrC_e e => dispInRange e
  | .nop | .ldBC_nn _ | .ldmBC_A | .incBC | .incB | .decB | .ldB_n _ | .rlca => true
  | .exAF_AF | .addHL_BC | .ldA_mBC | .decBC | .incC | .decC | .ldC_n _ | .rrca => true
  | .ldDE_nn _ | .ldmDE_A | .incDE | .incD | .decD | .ldD_n _ | .rla | .addHL_DE => true
  | .ldA_mDE | .decDE | .incE | .decE | .ldE_n _ | .rra | .ldHL_nn _ | .ldmnn_HL _ => true
  | .incHL | .incH | .decH | .ldH_n _ | .daa | .addHL_HL | .ldHL_mnn _ | .decHL => true
  | .incL | .decL | .ldL_n _ | .cpl | .ldSP_nn _ | .ldmnn_A _ | .incSP | .incmHL => true
  | .decmHL | .ldmHL_n _ | .scf | .addHL_SP | .ldA_mnn _ | .decSP | .incA | .decA => true
  | .ldA_n _ | .ccf | .ldB_B | .ldB_C | .ldB_D | .ldB_E | .ldB_H | .ldB_L => true
  | .ldB_mHL | .ldB_A | .ldC_B | .ldC_C | .ldC_D | .ldC_E | .ldC_H | .ldC_L => true
  | .ldC_mHL | .ldC_A | .ldD_B | .ldD_C | .ldD_D | .ldD_E | .ldD_H | .ldD_L => true
  | .ldD_mHL | .ldD_A | .ldE_B | .ldE_C | .ldE_D | .ldE_E | .ldE_H | .ldE_L => true
  | .ldE_mHL | .ldE_A | .ldH_B | .ldH_C | .ldH_D | .ldH_E | .ldH_H | .ldH_L => true
  | .ldH_mHL | .ldH_A | .ldL_B | .ldL_C | .ldL_D | .ldL_E | .ldL_H | .ldL_L => true
  | .ldL_mHL | .ldL_A | .ldmHL_B | .ldmHL_C | .ldmHL_D | .ldmHL_E | .ldmHL_H | .ldmHL_L => true
  | .halt | .ldmHL_A | .ldA_B | .ldA_C | .ldA_D | .ldA_E | .ldA_H | .ldA_L => true
  | .ldA_mHL | .ldA_A | .addA_B | .addA_C | .addA_D | .addA_E | .addA_H | .addA_L => true
  | .addA_mHL | .addA_A | .adcA_B | .adcA_C | .adcA_D | .adcA_E | .adcA_H | .adcA_L => true
  | .adcA_mHL | .adcA_A | .subB | .subC | .subD | .subE | .subH | .subL => true
  | .submHL | .subA | .sbcA_B | .sbcA_C | .sbcA_D | .sbcA_E | .sbcA_H | .sbcA_L => true
  | .sbcA_mHL | .sbcA_A | .andB | .andC | .andD | .andE | .andH | .andL => true
  | .andmHL | .andA | .xorB | .xorC | .xorD | .xorE | .xorH | .xorL => true
  | .xormHL | .xorA | .orB | .orC | .orD | .orE | .orH | .orL => true
  | .ormHL | .orA | .cpB | .cpC | .cpD | .cpE | .cpH | .cpL => true
  | .cpmHL | .cpA | .retNZ | .popBC | .jpNZ_nn _ | .jp_nn _ | .callNZ_nn _ | .pushBC => true
  | .addA_n _ | .rst00 | .retZ | .ret | .jpZ_nn _ | .cbPrefix | .callZ_nn _ | .call_nn _ => true
  | .adcA_n _ | .rst08 | .retNC | .popDE | .jpNC_nn _ | .outmn_A _ | .callNC_nn _ | .pushDE => true
  | .sub_n _ | .rst10 | .retC | .exx | .jpC_nn _ | .inA_mn _ | .callC_nn _ | .ddPrefix => true
  | .sbcA_n _ | .rst18 | .retPO | .popHL | .jpPO_nn _ | .exmSP_HL | .callPO_nn _ | .pushHL => true
  | .and_n _ | .rst20 | .retPE | .jpHL | .jpPE_nn _ | .exDE_HL | .callPE_nn _ | .edPrefix => true
  | .xor_n _ | .rst28 | .retP | .popAF | .jpP_nn _ | .di | .callP_nn _ | .pushAF => true
  | .or_n _ | .rst30 | .retM | .ldSP_HL | .jpM_nn _ | .ei | .callM_nn _ | .fdPrefix => true
  | .cp_n _ | .rst38 => true

/-- An instruction that has an encoding. -/
abbrev Instr.WellFormed (i : Instr) : Prop := i.wf = true

end Sys2Proof
end

