-- ==== Sys2Proof/Decode.lean ====
section
/-! DEFINITION. Decoding, by the fields of the opcode byte (spec/30_encoding.md R80 to R87), and after it the encoder, by the
opcode table row by row (R88, spec/opcode_table.json). The two are written from two different tables of the spec. -/
namespace Sys2Proof

/-! ## Instruction forms

A form is an instruction with its operand fields as arguments: what one rule of spec/40 to 47 covers. -/

/-- LD r,r', LD r,(HL), LD (HL),r: the load block (R85), whose remaining cell 0x76 is HALT. -/
def Form.ld : Operand8 → Operand8 → Instr
  | .reg .b, .reg .b => .ldB_B | .reg .b, .reg .c => .ldB_C | .reg .b, .reg .d => .ldB_D | .reg .b, .reg .e => .ldB_E
  | .reg .b, .reg .h => .ldB_H | .reg .b, .reg .l => .ldB_L | .reg .b, .mHL => .ldB_mHL | .reg .b, .reg .a => .ldB_A
  | .reg .c, .reg .b => .ldC_B | .reg .c, .reg .c => .ldC_C | .reg .c, .reg .d => .ldC_D | .reg .c, .reg .e => .ldC_E
  | .reg .c, .reg .h => .ldC_H | .reg .c, .reg .l => .ldC_L | .reg .c, .mHL => .ldC_mHL | .reg .c, .reg .a => .ldC_A
  | .reg .d, .reg .b => .ldD_B | .reg .d, .reg .c => .ldD_C | .reg .d, .reg .d => .ldD_D | .reg .d, .reg .e => .ldD_E
  | .reg .d, .reg .h => .ldD_H | .reg .d, .reg .l => .ldD_L | .reg .d, .mHL => .ldD_mHL | .reg .d, .reg .a => .ldD_A
  | .reg .e, .reg .b => .ldE_B | .reg .e, .reg .c => .ldE_C | .reg .e, .reg .d => .ldE_D | .reg .e, .reg .e => .ldE_E
  | .reg .e, .reg .h => .ldE_H | .reg .e, .reg .l => .ldE_L | .reg .e, .mHL => .ldE_mHL | .reg .e, .reg .a => .ldE_A
  | .reg .h, .reg .b => .ldH_B | .reg .h, .reg .c => .ldH_C | .reg .h, .reg .d => .ldH_D | .reg .h, .reg .e => .ldH_E
  | .reg .h, .reg .h => .ldH_H | .reg .h, .reg .l => .ldH_L | .reg .h, .mHL => .ldH_mHL | .reg .h, .reg .a => .ldH_A
  | .reg .l, .reg .b => .ldL_B | .reg .l, .reg .c => .ldL_C | .reg .l, .reg .d => .ldL_D | .reg .l, .reg .e => .ldL_E
  | .reg .l, .reg .h => .ldL_H | .reg .l, .reg .l => .ldL_L | .reg .l, .mHL => .ldL_mHL | .reg .l, .reg .a => .ldL_A
  | .mHL, .reg .b => .ldmHL_B | .mHL, .reg .c => .ldmHL_C | .mHL, .reg .d => .ldmHL_D | .mHL, .reg .e => .ldmHL_E
  | .mHL, .reg .h => .ldmHL_H | .mHL, .reg .l => .ldmHL_L | .mHL, .mHL => .halt | .mHL, .reg .a => .ldmHL_A
  | .reg .a, .reg .b => .ldA_B | .reg .a, .reg .c => .ldA_C | .reg .a, .reg .d => .ldA_D | .reg .a, .reg .e => .ldA_E
  | .reg .a, .reg .h => .ldA_H | .reg .a, .reg .l => .ldA_L | .reg .a, .mHL => .ldA_mHL | .reg .a, .reg .a => .ldA_A

/-- LD r,n and LD (HL),n (R84, z = 6). -/
def Form.ldImm (o : Operand8) (n : Byte) : Instr :=
  match o with
  | .reg .b => .ldB_n n | .reg .c => .ldC_n n | .reg .d => .ldD_n n | .reg .e => .ldE_n n
  | .reg .h => .ldH_n n | .reg .l => .ldL_n n | .mHL => .ldmHL_n n | .reg .a => .ldA_n n

/-- INC r and INC (HL) (R84, z = 4). -/
def Form.inc : Operand8 → Instr
  | .reg .b => .incB | .reg .c => .incC | .reg .d => .incD | .reg .e => .incE
  | .reg .h => .incH | .reg .l => .incL | .mHL => .incmHL | .reg .a => .incA

/-- DEC r and DEC (HL) (R84, z = 5). -/
def Form.dec : Operand8 → Instr
  | .reg .b => .decB | .reg .c => .decC | .reg .d => .decD | .reg .e => .decE
  | .reg .h => .decH | .reg .l => .decL | .mHL => .decmHL | .reg .a => .decA

/-- An accumulator operation on a register or (HL) (R86), or on an immediate (R87, z = 6). -/
def Form.alu : AluOp → AluSrc → Instr
  | .add, .op (.reg .b) => .addA_B | .add, .op (.reg .c) => .addA_C | .add, .op (.reg .d) => .addA_D
  | .add, .op (.reg .e) => .addA_E | .add, .op (.reg .h) => .addA_H | .add, .op (.reg .l) => .addA_L
  | .add, .op .mHL => .addA_mHL | .add, .op (.reg .a) => .addA_A | .add, .imm n => .addA_n n
  | .adc, .op (.reg .b) => .adcA_B | .adc, .op (.reg .c) => .adcA_C | .adc, .op (.reg .d) => .adcA_D
  | .adc, .op (.reg .e) => .adcA_E | .adc, .op (.reg .h) => .adcA_H | .adc, .op (.reg .l) => .adcA_L
  | .adc, .op .mHL => .adcA_mHL | .adc, .op (.reg .a) => .adcA_A | .adc, .imm n => .adcA_n n
  | .sub, .op (.reg .b) => .subB | .sub, .op (.reg .c) => .subC | .sub, .op (.reg .d) => .subD
  | .sub, .op (.reg .e) => .subE | .sub, .op (.reg .h) => .subH | .sub, .op (.reg .l) => .subL
  | .sub, .op .mHL => .submHL | .sub, .op (.reg .a) => .subA | .sub, .imm n => .sub_n n
  | .sbc, .op (.reg .b) => .sbcA_B | .sbc, .op (.reg .c) => .sbcA_C | .sbc, .op (.reg .d) => .sbcA_D
  | .sbc, .op (.reg .e) => .sbcA_E | .sbc, .op (.reg .h) => .sbcA_H | .sbc, .op (.reg .l) => .sbcA_L
  | .sbc, .op .mHL => .sbcA_mHL | .sbc, .op (.reg .a) => .sbcA_A | .sbc, .imm n => .sbcA_n n
  | .and, .op (.reg .b) => .andB | .and, .op (.reg .c) => .andC | .and, .op (.reg .d) => .andD
  | .and, .op (.reg .e) => .andE | .and, .op (.reg .h) => .andH | .and, .op (.reg .l) => .andL
  | .and, .op .mHL => .andmHL | .and, .op (.reg .a) => .andA | .and, .imm n => .and_n n
  | .xor, .op (.reg .b) => .xorB | .xor, .op (.reg .c) => .xorC | .xor, .op (.reg .d) => .xorD
  | .xor, .op (.reg .e) => .xorE | .xor, .op (.reg .h) => .xorH | .xor, .op (.reg .l) => .xorL
  | .xor, .op .mHL => .xormHL | .xor, .op (.reg .a) => .xorA | .xor, .imm n => .xor_n n
  | .or, .op (.reg .b) => .orB | .or, .op (.reg .c) => .orC | .or, .op (.reg .d) => .orD
  | .or, .op (.reg .e) => .orE | .or, .op (.reg .h) => .orH | .or, .op (.reg .l) => .orL
  | .or, .op .mHL => .ormHL | .or, .op (.reg .a) => .orA | .or, .imm n => .or_n n
  | .cp, .op (.reg .b) => .cpB | .cp, .op (.reg .c) => .cpC | .cp, .op (.reg .d) => .cpD
  | .cp, .op (.reg .e) => .cpE | .cp, .op (.reg .h) => .cpH | .cp, .op (.reg .l) => .cpL
  | .cp, .op .mHL => .cpmHL | .cp, .op (.reg .a) => .cpA | .cp, .imm n => .cp_n n

/-- LD dd,nn (R84, z = 1, q = 0). -/
def Form.ldDD (r : RegDD) (nn : Word) : Instr :=
  match r with
  | .bc => .ldBC_nn nn | .de => .ldDE_nn nn | .hl => .ldHL_nn nn | .sp => .ldSP_nn nn

/-- ADD HL,ss (R84, z = 1, q = 1). -/
def Form.addHL : RegDD → Instr
  | .bc => .addHL_BC | .de => .addHL_DE | .hl => .addHL_HL | .sp => .addHL_SP

/-- INC ss (R84, z = 3, q = 0). -/
def Form.incDD : RegDD → Instr
  | .bc => .incBC | .de => .incDE | .hl => .incHL | .sp => .incSP

/-- DEC ss (R84, z = 3, q = 1). -/
def Form.decDD : RegDD → Instr
  | .bc => .decBC | .de => .decDE | .hl => .decHL | .sp => .decSP

/-- PUSH qq (R87, z = 5, q = 0). -/
def Form.push : RegQQ → Instr
  | .bc => .pushBC | .de => .pushDE | .hl => .pushHL | .af => .pushAF

/-- POP qq (R87, z = 1, q = 0). -/
def Form.pop : RegQQ → Instr
  | .bc => .popBC | .de => .popDE | .hl => .popHL | .af => .popAF

/-- JP cc,nn (R87, z = 2). -/
def Form.jpCc (cc : Cond) (nn : Word) : Instr :=
  match cc with
  | .nz => .jpNZ_nn nn | .z => .jpZ_nn nn | .nc => .jpNC_nn nn | .c => .jpC_nn nn
  | .po => .jpPO_nn nn | .pe => .jpPE_nn nn | .p => .jpP_nn nn | .m => .jpM_nn nn

/-- JR cc,e (R84, z = 0, y = 4..7). -/
def Form.jrCc (cc : CondJR) (e : Int) : Instr :=
  match cc with
  | .nz => .jrNZ_e e | .z => .jrZ_e e | .nc => .jrNC_e e | .c => .jrC_e e

/-- CALL cc,nn (R87, z = 4). -/
def Form.callCc (cc : Cond) (nn : Word) : Instr :=
  match cc with
  | .nz => .callNZ_nn nn | .z => .callZ_nn nn | .nc => .callNC_nn nn | .c => .callC_nn nn
  | .po => .callPO_nn nn | .pe => .callPE_nn nn | .p => .callP_nn nn | .m => .callM_nn nn

/-- RET cc (R87, z = 0). -/
def Form.retCc : Cond → Instr
  | .nz => .retNZ | .z => .retZ | .nc => .retNC | .c => .retC
  | .po => .retPO | .pe => .retPE | .p => .retP | .m => .retM

/-- RST t (R87, z = 7). -/
def Form.rst : Fin 8 → Instr
  | 0 => .rst00 | 1 => .rst08 | 2 => .rst10 | 3 => .rst18 | 4 => .rst20 | 5 => .rst28 | 6 => .rst30 | 7 => .rst38

/-! ## The fields of the opcode byte (R81) and what they select -/

/-- x = op[7:6]. -/
def fieldX (op : Byte) : Fin 4 := ⟨op.toNat / 64 % 4, Nat.mod_lt _ (by decide)⟩

/-- y = op[5:3]. -/
def fieldY (op : Byte) : Fin 8 := ⟨op.toNat / 8 % 8, Nat.mod_lt _ (by decide)⟩

/-- z = op[2:0]. -/
def fieldZ (op : Byte) : Fin 8 := ⟨op.toNat % 8, Nat.mod_lt _ (by decide)⟩

/-- The register-operand field (R24). -/
def Operand8.ofField : Fin 8 → Operand8
  | 0 => .reg .b | 1 => .reg .c | 2 => .reg .d | 3 => .reg .e | 4 => .reg .h | 5 => .reg .l | 6 => .mHL | 7 => .reg .a

/-- The ALU field (R81). -/
def AluOp.ofField : Fin 8 → AluOp
  | 0 => .add | 1 => .adc | 2 => .sub | 3 => .sbc | 4 => .and | 5 => .xor | 6 => .or | 7 => .cp

/-- The condition field of JP, CALL and RET (R39). -/
def Cond.ofField : Fin 8 → Cond
  | 0 => .nz | 1 => .z | 2 => .nc | 3 => .c | 4 => .po | 5 => .pe | 6 => .p | 7 => .m

/-! The same fields as codes: the other reading of R24, R25, R39 and R81. -/

/-- The code of a register in the register-operand field (R24); 6 is the memory operand's. -/
def Reg8.code : Reg8 → BitVec 3
  | .b => 0 | .c => 1 | .d => 2 | .e => 3 | .h => 4 | .l => 5 | .a => 7

/-- The code of an operand in the register-operand field (R24). -/
def Operand8.code : Operand8 → BitVec 3
  | .reg r => r.code
  | .mHL => 6

/-- The code in the pair field, `dd`/`ss` form (R25). -/
def RegDD.code : RegDD → BitVec 2
  | .bc => 0 | .de => 1 | .hl => 2 | .sp => 3

/-- The code in the pair field, `qq` form (R25). -/
def RegQQ.code : RegQQ → BitVec 2
  | .bc => 0 | .de => 1 | .hl => 2 | .af => 3

/-- The code of a condition (R39). -/
def Cond.code : Cond → BitVec 3
  | .nz => 0 | .z => 1 | .nc => 2 | .c => 3 | .po => 4 | .pe => 5 | .p => 6 | .m => 7

/-- The code of a condition of JR cc (R39). -/
def CondJR.code : CondJR → BitVec 2
  | .nz => 0 | .z => 1 | .nc => 2 | .c => 3

/-- The code of an accumulator operation (R81). -/
def AluOp.code : AluOp → BitVec 3
  | .add => 0 | .adc => 1 | .sub => 2 | .sbc => 3 | .and => 4 | .xor => 5 | .or => 6 | .cp => 7

/-! ## The four quadrants

In each, `y` and `z` are the fields of the opcode byte, `n` the byte after it, and `nn` the word after it; where
R84 and R87 split `y` into `p` (its upper two bits) and `q` (its lowest), `y = 2p + q`. -/

/-- x = 0 (R84). -/
def decodeX0 (y z : Fin 8) (n : Byte) (nn : Word) : Instr :=
  match z with
  | 0 =>
    match y with
    | 0 => .nop
    | 1 => .exAF_AF
    | 2 => .djnz_e (signedByte n)
    | 3 => .jr_e (signedByte n)
    | 4 => Form.jrCc .nz (signedByte n)
    | 5 => Form.jrCc .z (signedByte n)
    | 6 => Form.jrCc .nc (signedByte n)
    | 7 => Form.jrCc .c (signedByte n)
  | 1 =>
    match y with
    | 0 => Form.ldDD .bc nn | 2 => Form.ldDD .de nn | 4 => Form.ldDD .hl nn | 6 => Form.ldDD .sp nn
    | 1 => Form.addHL .bc | 3 => Form.addHL .de | 5 => Form.addHL .hl | 7 => Form.addHL .sp
  | 2 =>
    match y with
    | 0 => .ldmBC_A
    | 1 => .ldA_mBC
    | 2 => .ldmDE_A
    | 3 => .ldA_mDE
    | 4 => .ldmnn_HL nn
    | 5 => .ldHL_mnn nn
    | 6 => .ldmnn_A nn
    | 7 => .ldA_mnn nn
  | 3 =>
    match y with
    | 0 => Form.incDD .bc | 2 => Form.incDD .de | 4 => Form.incDD .hl | 6 => Form.incDD .sp
    | 1 => Form.decDD .bc | 3 => Form.decDD .de | 5 => Form.decDD .hl | 7 => Form.decDD .sp
  | 4 => Form.inc (Operand8.ofField y)
  | 5 => Form.dec (Operand8.ofField y)
  | 6 => Form.ldImm (Operand8.ofField y) n
  | 7 =>
    match y with
    | 0 => .rlca | 1 => .rrca | 2 => .rla | 3 => .rra | 4 => .daa | 5 => .cpl | 6 => .scf | 7 => .ccf

/-- x = 3 (R87). -/
def decodeX3 (y z : Fin 8) (n : Byte) (nn : Word) : Instr :=
  match z with
  | 0 => Form.retCc (Cond.ofField y)
  | 1 =>
    match y with
    | 0 => Form.pop .bc | 2 => Form.pop .de | 4 => Form.pop .hl | 6 => Form.pop .af
    | 1 => .ret
    | 3 => .exx
    | 5 => .jpHL
    | 7 => .ldSP_HL
  | 2 => Form.jpCc (Cond.ofField y) nn
  | 3 =>
    match y with
    | 0 => .jp_nn nn
    | 1 => .cbPrefix
    | 2 => .outmn_A n
    | 3 => .inA_mn n
    | 4 => .exmSP_HL
    | 5 => .exDE_HL
    | 6 => .di
    | 7 => .ei
  | 4 => Form.callCc (Cond.ofField y) nn
  | 5 =>
    match y with
    | 0 => Form.push .bc | 2 => Form.push .de | 4 => Form.push .hl | 6 => Form.push .af
    | 1 => .call_nn nn
    | 3 => .ddPrefix
    | 5 => .edPrefix
    | 7 => .fdPrefix
  | 6 => Form.alu (AluOp.ofField y) (.imm n)
  | 7 => Form.rst y

/-- The instruction an opcode byte and the two bytes after it make (R80, R82, R84 to R87). Total: every first-level byte has
a handler (R90, R101); a byte that is no operand of it is not looked at. -/
def decode3 (op b1 b2 : Byte) : Instr :=
  match fieldX op with
  | 0 => decodeX0 (fieldY op) (fieldZ op) b1 (wordOf b2 b1)
  | 1 => Form.ld (Operand8.ofField (fieldY op)) (Operand8.ofField (fieldZ op))
  | 2 => Form.alu (AluOp.ofField (fieldY op)) (.op (Operand8.ofField (fieldZ op)))
  | 3 => decodeX3 (fieldY op) (fieldZ op) b1 (wordOf b2 b1)

/-! ## Lengths, and decoding a stream of bytes -/

/-- Whether an opcode byte begins a 2-byte instruction (R83). -/
def isTwoByte (op : Byte) : Bool :=
  op ∈ [0x10#8, 0x18#8, 0x20#8, 0x28#8, 0x30#8, 0x38#8, 0xD3#8, 0xDB#8]
    || (fieldX op == 0 && fieldZ op == 6) || (fieldX op == 3 && fieldZ op == 6)

/-- Whether an opcode byte begins a 3-byte instruction (R83). -/
def isThreeByte (op : Byte) : Bool :=
  op ∈ [0x01#8, 0x11#8, 0x21#8, 0x31#8, 0x22#8, 0x2A#8, 0x32#8, 0x3A#8, 0xC3#8, 0xCD#8]
    || (fieldX op == 3 && fieldZ op == 2) || (fieldX op == 3 && fieldZ op == 4)

/-- The length of the instruction an opcode byte begins, a function of that byte alone (R83). -/
def lengthOf (op : Byte) : Nat :=
  if isTwoByte op then 2 else if isThreeByte op then 3 else 1

/-- Why a stream of bytes holds no whole instruction. Neither can happen to the machine, whose memory has a byte at every
address (notes/assumptions/10.md). -/
inductive DecodeError where
  /-- The stream is empty. -/
  | noOpcode
  /-- The stream ends before the operand bytes its opcode byte calls for. -/
  | truncated
deriving DecidableEq, Repr

/-- The first instruction of a stream of bytes, and the bytes after it. -/
def decodeBytes : List Byte → Except DecodeError (Instr × List Byte)
  | [] => .error .noOpcode
  | op :: bytes =>
    match lengthOf op, bytes with
    | 1, bytes => .ok (decode3 op 0 0, bytes)
    | 2, b1 :: bytes => .ok (decode3 op b1 0, bytes)
    | 3, b1 :: b2 :: bytes => .ok (decode3 op b1 b2, bytes)
    | _, _ => .error .truncated

/-! ## The opcode table's numbering of an instruction's bits -/

/-- The three bytes of an instruction whose bits are `w`, bit 0 the lowest of the first byte; bits from `nbits` up are 0. -/
def tableBytes (nbits w : Nat) : Byte × Byte × Byte :=
  let v := w % 2 ^ nbits
  (BitVec.ofNat 8 v, BitVec.ofNat 8 (v / 256), BitVec.ofNat 8 (v / 65536))

/-- The instruction the decoder reads from an instruction whose bits are `w` as spec/opcode_table.json numbers them. -/
def decodeTableWord (nbits w : Nat) : Option Instr :=
  match decodeBytes [(tableBytes nbits w).1, (tableBytes nbits w).2.1, (tableBytes nbits w).2.2] with
  | .ok (i, _) => some i
  | .error _ => none

/-! ## The encoder -/

/-- The operand byte of a displacement (R82, R93): its two's-complement byte. -/
def dispByte (e : Int) : Byte := BitVec.ofInt 8 e

/-- The bytes of an instruction: the opcode byte its row of spec/opcode_table.json gives it (R88), then its operand bytes
(R80), a word's low byte first. -/
def encode : Instr → List Byte
  | .nop => [0x00]
  | .ldBC_nn nn => [0x01, loByte nn, hiByte nn]
  | .ldmBC_A => [0x02]
  | .incBC => [0x03]
  | .incB => [0x04]
  | .decB => [0x05]
  | .ldB_n n => [0x06, n]
  | .rlca => [0x07]
  | .exAF_AF => [0x08]
  | .addHL_BC => [0x09]
  | .ldA_mBC => [0x0A]
  | .decBC => [0x0B]
  | .incC => [0x0C]
  | .decC => [0x0D]
  | .ldC_n n => [0x0E, n]
  | .rrca => [0x0F]
  | .djnz_e e => [0x10, dispByte e]
  | .ldDE_nn nn => [0x11, loByte nn, hiByte nn]
  | .ldmDE_A => [0x12]
  | .incDE => [0x13]
  | .incD => [0x14]
  | .decD => [0x15]
  | .ldD_n n => [0x16, n]
  | .rla => [0x17]
  | .jr_e e => [0x18, dispByte e]
  | .addHL_DE => [0x19]
  | .ldA_mDE => [0x1A]
  | .decDE => [0x1B]
  | .incE => [0x1C]
  | .decE => [0x1D]
  | .ldE_n n => [0x1E, n]
  | .rra => [0x1F]
  | .jrNZ_e e => [0x20, dispByte e]
  | .ldHL_nn nn => [0x21, loByte nn, hiByte nn]
  | .ldmnn_HL nn => [0x22, loByte nn, hiByte nn]
  | .incHL => [0x23]
  | .incH => [0x24]
  | .decH => [0x25]
  | .ldH_n n => [0x26, n]
  | .daa => [0x27]
  | .jrZ_e e => [0x28, dispByte e]
  | .addHL_HL => [0x29]
  | .ldHL_mnn nn => [0x2A, loByte nn, hiByte nn]
  | .decHL => [0x2B]
  | .incL => [0x2C]
  | .decL => [0x2D]
  | .ldL_n n => [0x2E, n]
  | .cpl => [0x2F]
  | .jrNC_e e => [0x30, dispByte e]
  | .ldSP_nn nn => [0x31, loByte nn, hiByte nn]
  | .ldmnn_A nn => [0x32, loByte nn, hiByte nn]
  | .incSP => [0x33]
  | .incmHL => [0x34]
  | .decmHL => [0x35]
  | .ldmHL_n n => [0x36, n]
  | .scf => [0x37]
  | .jrC_e e => [0x38, dispByte e]
  | .addHL_SP => [0x39]
  | .ldA_mnn nn => [0x3A, loByte nn, hiByte nn]
  | .decSP => [0x3B]
  | .incA => [0x3C]
  | .decA => [0x3D]
  | .ldA_n n => [0x3E, n]
  | .ccf => [0x3F]
  | .ldB_B => [0x40]
  | .ldB_C => [0x41]
  | .ldB_D => [0x42]
  | .ldB_E => [0x43]
  | .ldB_H => [0x44]
  | .ldB_L => [0x45]
  | .ldB_mHL => [0x46]
  | .ldB_A => [0x47]
  | .ldC_B => [0x48]
  | .ldC_C => [0x49]
  | .ldC_D => [0x4A]
  | .ldC_E => [0x4B]
  | .ldC_H => [0x4C]
  | .ldC_L => [0x4D]
  | .ldC_mHL => [0x4E]
  | .ldC_A => [0x4F]
  | .ldD_B => [0x50]
  | .ldD_C => [0x51]
  | .ldD_D => [0x52]
  | .ldD_E => [0x53]
  | .ldD_H => [0x54]
  | .ldD_L => [0x55]
  | .ldD_mHL => [0x56]
  | .ldD_A => [0x57]
  | .ldE_B => [0x58]
  | .ldE_C => [0x59]
  | .ldE_D => [0x5A]
  | .ldE_E => [0x5B]
  | .ldE_H => [0x5C]
  | .ldE_L => [0x5D]
  | .ldE_mHL => [0x5E]
  | .ldE_A => [0x5F]
  | .ldH_B => [0x60]
  | .ldH_C => [0x61]
  | .ldH_D => [0x62]
  | .ldH_E => [0x63]
  | .ldH_H => [0x64]
  | .ldH_L => [0x65]
  | .ldH_mHL => [0x66]
  | .ldH_A => [0x67]
  | .ldL_B => [0x68]
  | .ldL_C => [0x69]
  | .ldL_D => [0x6A]
  | .ldL_E => [0x6B]
  | .ldL_H => [0x6C]
  | .ldL_L => [0x6D]
  | .ldL_mHL => [0x6E]
  | .ldL_A => [0x6F]
  | .ldmHL_B => [0x70]
  | .ldmHL_C => [0x71]
  | .ldmHL_D => [0x72]
  | .ldmHL_E => [0x73]
  | .ldmHL_H => [0x74]
  | .ldmHL_L => [0x75]
  | .halt => [0x76]
  | .ldmHL_A => [0x77]
  | .ldA_B => [0x78]
  | .ldA_C => [0x79]
  | .ldA_D => [0x7A]
  | .ldA_E => [0x7B]
  | .ldA_H => [0x7C]
  | .ldA_L => [0x7D]
  | .ldA_mHL => [0x7E]
  | .ldA_A => [0x7F]
  | .addA_B => [0x80]
  | .addA_C => [0x81]
  | .addA_D => [0x82]
  | .addA_E => [0x83]
  | .addA_H => [0x84]
  | .addA_L => [0x85]
  | .addA_mHL => [0x86]
  | .addA_A => [0x87]
  | .adcA_B => [0x88]
  | .adcA_C => [0x89]
  | .adcA_D => [0x8A]
  | .adcA_E => [0x8B]
  | .adcA_H => [0x8C]
  | .adcA_L => [0x8D]
  | .adcA_mHL => [0x8E]
  | .adcA_A => [0x8F]
  | .subB => [0x90]
  | .subC => [0x91]
  | .subD => [0x92]
  | .subE => [0x93]
  | .subH => [0x94]
  | .subL => [0x95]
  | .submHL => [0x96]
  | .subA => [0x97]
  | .sbcA_B => [0x98]
  | .sbcA_C => [0x99]
  | .sbcA_D => [0x9A]
  | .sbcA_E => [0x9B]
  | .sbcA_H => [0x9C]
  | .sbcA_L => [0x9D]
  | .sbcA_mHL => [0x9E]
  | .sbcA_A => [0x9F]
  | .andB => [0xA0]
  | .andC => [0xA1]
  | .andD => [0xA2]
  | .andE => [0xA3]
  | .andH => [0xA4]
  | .andL => [0xA5]
  | .andmHL => [0xA6]
  | .andA => [0xA7]
  | .xorB => [0xA8]
  | .xorC => [0xA9]
  | .xorD => [0xAA]
  | .xorE => [0xAB]
  | .xorH => [0xAC]
  | .xorL => [0xAD]
  | .xormHL => [0xAE]
  | .xorA => [0xAF]
  | .orB => [0xB0]
  | .orC => [0xB1]
  | .orD => [0xB2]
  | .orE => [0xB3]
  | .orH => [0xB4]
  | .orL => [0xB5]
  | .ormHL => [0xB6]
  | .orA => [0xB7]
  | .cpB => [0xB8]
  | .cpC => [0xB9]
  | .cpD => [0xBA]
  | .cpE => [0xBB]
  | .cpH => [0xBC]
  | .cpL => [0xBD]
  | .cpmHL => [0xBE]
  | .cpA => [0xBF]
  | .retNZ => [0xC0]
  | .popBC => [0xC1]
  | .jpNZ_nn nn => [0xC2, loByte nn, hiByte nn]
  | .jp_nn nn => [0xC3, loByte nn, hiByte nn]
  | .callNZ_nn nn => [0xC4, loByte nn, hiByte nn]
  | .pushBC => [0xC5]
  | .addA_n n => [0xC6, n]
  | .rst00 => [0xC7]
  | .retZ => [0xC8]
  | .ret => [0xC9]
  | .jpZ_nn nn => [0xCA, loByte nn, hiByte nn]
  | .cbPrefix => [0xCB]
  | .callZ_nn nn => [0xCC, loByte nn, hiByte nn]
  | .call_nn nn => [0xCD, loByte nn, hiByte nn]
  | .adcA_n n => [0xCE, n]
  | .rst08 => [0xCF]
  | .retNC => [0xD0]
  | .popDE => [0xD1]
  | .jpNC_nn nn => [0xD2, loByte nn, hiByte nn]
  | .outmn_A n => [0xD3, n]
  | .callNC_nn nn => [0xD4, loByte nn, hiByte nn]
  | .pushDE => [0xD5]
  | .sub_n n => [0xD6, n]
  | .rst10 => [0xD7]
  | .retC => [0xD8]
  | .exx => [0xD9]
  | .jpC_nn nn => [0xDA, loByte nn, hiByte nn]
  | .inA_mn n => [0xDB, n]
  | .callC_nn nn => [0xDC, loByte nn, hiByte nn]
  | .ddPrefix => [0xDD]
  | .sbcA_n n => [0xDE, n]
  | .rst18 => [0xDF]
  | .retPO => [0xE0]
  | .popHL => [0xE1]
  | .jpPO_nn nn => [0xE2, loByte nn, hiByte nn]
  | .exmSP_HL => [0xE3]
  | .callPO_nn nn => [0xE4, loByte nn, hiByte nn]
  | .pushHL => [0xE5]
  | .and_n n => [0xE6, n]
  | .rst20 => [0xE7]
  | .retPE => [0xE8]
  | .jpHL => [0xE9]
  | .jpPE_nn nn => [0xEA, loByte nn, hiByte nn]
  | .exDE_HL => [0xEB]
  | .callPE_nn nn => [0xEC, loByte nn, hiByte nn]
  | .edPrefix => [0xED]
  | .xor_n n => [0xEE, n]
  | .rst28 => [0xEF]
  | .retP => [0xF0]
  | .popAF => [0xF1]
  | .jpP_nn nn => [0xF2, loByte nn, hiByte nn]
  | .di => [0xF3]
  | .callP_nn nn => [0xF4, loByte nn, hiByte nn]
  | .pushAF => [0xF5]
  | .or_n n => [0xF6, n]
  | .rst30 => [0xF7]
  | .retM => [0xF8]
  | .ldSP_HL => [0xF9]
  | .jpM_nn nn => [0xFA, loByte nn, hiByte nn]
  | .ei => [0xFB]
  | .callM_nn nn => [0xFC, loByte nn, hiByte nn]
  | .fdPrefix => [0xFD]
  | .cp_n n => [0xFE, n]
  | .rst38 => [0xFF]

/-- The number of bytes an instruction occupies (R14, R80). -/
def Instr.length (i : Instr) : Nat := (encode i).length

end Sys2Proof
end

