-- ==== Sys2Proof/Machine/Fetch.lean ====
section
/-! DEFINITION. Fetching the instruction at the program counter (spec/20_memory.md R54), and its converse, which stands for
the host's load of a program (spec/70_reset_and_hazards.md R458; notes/assumptions/8.md). -/
namespace Sys2Proof.Machine

/-- The instruction whose opcode byte is at pc (R54, R100). Operand bytes are read at pc + 1 and pc + 2, with the wrap of
R51; pc is not changed. Reading a cell has no side effect (R58), so reading all three bytes always is harmless. -/
def State.fetch (s : State) : Instr :=
  decode3 (s.memRead s.pc) (s.memRead (s.pc + 1)) (s.memRead (s.pc + 2))

/-- Three bytes placed where `State.fetch` reads them. -/
def State.placeAtPc (s : State) (bytes : Byte × Byte × Byte) : State :=
  ((s.memWrite s.pc bytes.1).memWrite (s.pc + 1) bytes.2.1).memWrite (s.pc + 2) bytes.2.2

end Sys2Proof.Machine
end

