-- ==== Sys2Proof/Machine/Step.lean ====
section
/-! DEFINITION. The step (spec/40_dispatch.md R100). -/
namespace Sys2Proof.Machine

/-- `step()` (R100): a faulted core is quiescent (R404); any other fetches the instruction at pc and runs its handler. -/
def step (s : State) : Host.Outcome State Fault Refusal :=
  match s.fault with
  | some _ => .next s
  | none => exec s.fetch s

/-- `s` with the instruction whose bits are `w`, as spec/opcode_table.json numbers them, at pc, and no recorded fault (a
faulted core does not fetch, R404): the next `step` runs exactly it (notes/assumptions/8.md). -/
def State.withFetchWord (s : State) (nbits w : Nat) : State :=
  { s.placeAtPc (tableBytes nbits w) with fault := none }

end Sys2Proof.Machine
end

