-- ==== Sys2Proof/Machine/HostAccess.lean ====
section
/-! DEFINITION. What the host may do to the core (spec/70_reset_and_hazards.md R456 to R460). The host acts only between
steps (R64, R457), so each of its actions is a function of a whole state. -/
namespace Sys2Proof.Machine

/-- Bytes written at rising addresses from `addr` on. -/
def State.writeBytes (s : State) (addr : Word) : List Byte → State
  | [] => s
  | v :: rest => (s.memWrite addr v).writeBytes (addr + 1) rest

/-- `load(image)` (R458): the image verbatim from address 0 on and true, or, when it is larger than ROM_MAX, nothing and
false. -/
def State.loadRom (s : State) (image : List Byte) : State × Bool :=
  if image.length ≤ Config.romMax then (s.writeBytes 0 image, true) else (s, false)

/-- A port cell written by the host (R303, R457). -/
def State.hostWritePort (s : State) (i : Fin 16) (v : Byte) : State := { s with ports := s.ports.set i.val v }

/-- The four 16-bit registers that are storage of their own (R20, R22); the pairs are views (R23) and stand in `RegQQ`. -/
inductive Reg16 where
  | ix | iy | sp | pc
deriving DecidableEq, Repr

/-- A 16-bit register read (R22). -/
def State.getReg16 (s : State) : Reg16 → Word
  | .ix => s.ix
  | .iy => s.iy
  | .sp => s.sp
  | .pc => s.pc

/-- A 16-bit register written (R22). -/
def State.setReg16 (s : State) (r : Reg16) (v : Word) : State :=
  match r with
  | .ix => { s with ix := v }
  | .iy => { s with iy := v }
  | .sp => { s with sp := v }
  | .pc => { s with pc := v }

/-- The interactions of R460 that change the state. Observing changes nothing (R457), and the fault is observed in the state
(R404, R456). Between steps, with a fault recorded or not, the host may write every register, memory cell and port cell
(R457, R460, D29); it has no way to write the fault but a reset (R44, R404; notes/assumptions/15.md). -/
inductive HostAction where
  /-- Construct a new core (R450). -/
  | reset (p : ResetParams)
  /-- Load a ROM image (R458). -/
  | load (image : List Byte)
  /-- Drive one step (R456). -/
  | step
  /-- Modify an 8-bit register (R457: `set8`). -/
  | write8 (r : Reg8) (v : Byte)
  /-- Modify a register pair (R457: `set16`). -/
  | write16 (p : RegQQ) (v : Word)
  /-- Modify the flag register (R457). -/
  | writeF (v : Byte)
  /-- Modify IX, IY, SP or PC (R457). -/
  | writeReg16 (r : Reg16) (v : Word)
  /-- Modify a memory cell (R457). -/
  | writeMem (addr : Word) (v : Byte)
  /-- Modify a port cell (R457). -/
  | writePort (i : Fin 16) (v : Byte)
deriving DecidableEq, Repr

/-- The effect of one interaction. -/
def hostAct (act : HostAction) (s : State) : Host.Outcome State Fault Refusal :=
  match act with
  | .reset p => .next (State.resetWith p)
  | .load image => .next (s.loadRom image).1
  | .step => Sys2Proof.Machine.step s
  | .write8 r v => .next (s.set8 r v)
  | .write16 p v => .next (s.set16 p v)
  | .writeF v => .next { s with f := v }
  | .writeReg16 r v => .next (s.setReg16 r v)
  | .writeMem addr v => .next (s.memWrite addr v)
  | .writePort i v => .next (s.hostWritePort i v)

end Sys2Proof.Machine
end

