-- ==== Sys2Proof/Safety.lean ====
section
/-! DEFINITION. The terms claims are stated in: the end of a run (spec/40_dispatch.md R109), what an instruction may change
(the tables R27, R40 and R57 of the spec, per instruction), and what the flag procedures leave (R37). -/
namespace Sys2Proof.Machine

/-! ## The end of a run (R109) -/

/-- `halted(s)` (R109): the core has no fault and stands at a HALT. -/
abbrev State.Halted (s : State) : Prop := s.fault = none ∧ s.memRead s.pc = 0x76

/-- `faulted(s)` (R109). -/
abbrev State.Faulted (s : State) : Prop := s.fault ≠ none

/-! ## What each instruction may change

These tables are the spec's (R27, R40, R57), written beside the meanings and not from them. -/

/-- The 8-bit general registers an instruction may write (R27). -/
def destRegs : Instr → List Reg8
  | .nop | .ldmBC_A | .exAF_AF | .ldmDE_A | .jr_e _ | .jrNZ_e _ | .ldmnn_HL _ | .daa | .jrZ_e _ | .jrNC_e _ => []
  | .ldSP_nn _ | .ldmnn_A _ | .incSP | .incmHL | .decmHL | .ldmHL_n _ | .scf | .jrC_e _ | .decSP | .ccf => []
  | .ldmHL_B | .ldmHL_C | .ldmHL_D | .ldmHL_E | .ldmHL_H | .ldmHL_L | .halt | .ldmHL_A | .cpB | .cpC => []
  | .cpD | .cpE | .cpH | .cpL | .cpmHL | .cpA | .retNZ | .jpNZ_nn _ | .jp_nn _ | .callNZ_nn _ => []
  | .pushBC | .rst00 | .retZ | .ret | .jpZ_nn _ | .cbPrefix | .callZ_nn _ | .call_nn _ | .rst08 | .retNC => []
  | .jpNC_nn _ | .outmn_A _ | .callNC_nn _ | .pushDE | .rst10 | .retC | .exx | .jpC_nn _ | .callC_nn _ | .ddPrefix => []
  | .rst18 | .retPO | .jpPO_nn _ | .callPO_nn _ | .pushHL | .rst20 | .retPE | .jpHL | .jpPE_nn _ | .callPE_nn _ => []
  | .edPrefix | .rst28 | .retP | .jpP_nn _ | .di | .callP_nn _ | .pushAF | .rst30 | .retM | .ldSP_HL => []
  | .jpM_nn _ | .ei | .callM_nn _ | .fdPrefix | .cp_n _ | .rst38 => []
  | .ldBC_nn _ | .incBC | .decBC | .popBC => [.b, .c]
  | .incB | .decB | .ldB_n _ | .djnz_e _ | .ldB_B | .ldB_C | .ldB_D | .ldB_E | .ldB_H | .ldB_L => [.b]
  | .ldB_mHL | .ldB_A => [.b]
  | .rlca | .ldA_mBC | .rrca | .rla | .ldA_mDE | .rra | .cpl | .ldA_mnn _ | .incA | .decA => [.a]
  | .ldA_n _ | .ldA_B | .ldA_C | .ldA_D | .ldA_E | .ldA_H | .ldA_L | .ldA_mHL | .ldA_A | .addA_B => [.a]
  | .addA_C | .addA_D | .addA_E | .addA_H | .addA_L | .addA_mHL | .addA_A | .adcA_B | .adcA_C | .adcA_D => [.a]
  | .adcA_E | .adcA_H | .adcA_L | .adcA_mHL | .adcA_A | .subB | .subC | .subD | .subE | .subH => [.a]
  | .subL | .submHL | .subA | .sbcA_B | .sbcA_C | .sbcA_D | .sbcA_E | .sbcA_H | .sbcA_L | .sbcA_mHL => [.a]
  | .sbcA_A | .andB | .andC | .andD | .andE | .andH | .andL | .andmHL | .andA | .xorB => [.a]
  | .xorC | .xorD | .xorE | .xorH | .xorL | .xormHL | .xorA | .orB | .orC | .orD => [.a]
  | .orE | .orH | .orL | .ormHL | .orA | .addA_n _ | .adcA_n _ | .sub_n _ | .inA_mn _ | .sbcA_n _ => [.a]
  | .and_n _ | .xor_n _ | .popAF | .or_n _ => [.a]
  | .addHL_BC | .addHL_DE | .ldHL_nn _ | .incHL | .addHL_HL | .ldHL_mnn _ | .decHL | .addHL_SP | .popHL | .exmSP_HL => [.h, .l]
  | .incC | .decC | .ldC_n _ | .ldC_B | .ldC_C | .ldC_D | .ldC_E | .ldC_H | .ldC_L | .ldC_mHL => [.c]
  | .ldC_A => [.c]
  | .ldDE_nn _ | .incDE | .decDE | .popDE => [.d, .e]
  | .incD | .decD | .ldD_n _ | .ldD_B | .ldD_C | .ldD_D | .ldD_E | .ldD_H | .ldD_L | .ldD_mHL => [.d]
  | .ldD_A => [.d]
  | .incE | .decE | .ldE_n _ | .ldE_B | .ldE_C | .ldE_D | .ldE_E | .ldE_H | .ldE_L | .ldE_mHL => [.e]
  | .ldE_A => [.e]
  | .incH | .decH | .ldH_n _ | .ldH_B | .ldH_C | .ldH_D | .ldH_E | .ldH_H | .ldH_L | .ldH_mHL => [.h]
  | .ldH_A => [.h]
  | .incL | .decL | .ldL_n _ | .ldL_B | .ldL_C | .ldL_D | .ldL_E | .ldL_H | .ldL_L | .ldL_mHL => [.l]
  | .ldL_A => [.l]
  | .exDE_HL => [.d, .e, .h, .l]

/-- Whether an instruction may write SP (R27). -/
def writesSP : Instr → Bool
  | .nop | .ldBC_nn _ | .ldmBC_A | .incBC | .incB | .decB | .ldB_n _ | .rlca | .exAF_AF | .addHL_BC => false
  | .ldA_mBC | .decBC | .incC | .decC | .ldC_n _ | .rrca | .djnz_e _ | .ldDE_nn _ | .ldmDE_A | .incDE => false
  | .incD | .decD | .ldD_n _ | .rla | .jr_e _ | .addHL_DE | .ldA_mDE | .decDE | .incE | .decE => false
  | .ldE_n _ | .rra | .jrNZ_e _ | .ldHL_nn _ | .ldmnn_HL _ | .incHL | .incH | .decH | .ldH_n _ | .daa => false
  | .jrZ_e _ | .addHL_HL | .ldHL_mnn _ | .decHL | .incL | .decL | .ldL_n _ | .cpl | .jrNC_e _ | .ldmnn_A _ => false
  | .incmHL | .decmHL | .ldmHL_n _ | .scf | .jrC_e _ | .addHL_SP | .ldA_mnn _ | .incA | .decA | .ldA_n _ => false
  | .ccf | .ldB_B | .ldB_C | .ldB_D | .ldB_E | .ldB_H | .ldB_L | .ldB_mHL | .ldB_A | .ldC_B => false
  | .ldC_C | .ldC_D | .ldC_E | .ldC_H | .ldC_L | .ldC_mHL | .ldC_A | .ldD_B | .ldD_C | .ldD_D => false
  | .ldD_E | .ldD_H | .ldD_L | .ldD_mHL | .ldD_A | .ldE_B | .ldE_C | .ldE_D | .ldE_E | .ldE_H => false
  | .ldE_L | .ldE_mHL | .ldE_A | .ldH_B | .ldH_C | .ldH_D | .ldH_E | .ldH_H | .ldH_L | .ldH_mHL => false
  | .ldH_A | .ldL_B | .ldL_C | .ldL_D | .ldL_E | .ldL_H | .ldL_L | .ldL_mHL | .ldL_A | .ldmHL_B => false
  | .ldmHL_C | .ldmHL_D | .ldmHL_E | .ldmHL_H | .ldmHL_L | .halt | .ldmHL_A | .ldA_B | .ldA_C | .ldA_D => false
  | .ldA_E | .ldA_H | .ldA_L | .ldA_mHL | .ldA_A | .addA_B | .addA_C | .addA_D | .addA_E | .addA_H => false
  | .addA_L | .addA_mHL | .addA_A | .adcA_B | .adcA_C | .adcA_D | .adcA_E | .adcA_H | .adcA_L | .adcA_mHL => false
  | .adcA_A | .subB | .subC | .subD | .subE | .subH | .subL | .submHL | .subA | .sbcA_B => false
  | .sbcA_C | .sbcA_D | .sbcA_E | .sbcA_H | .sbcA_L | .sbcA_mHL | .sbcA_A | .andB | .andC | .andD => false
  | .andE | .andH | .andL | .andmHL | .andA | .xorB | .xorC | .xorD | .xorE | .xorH => false
  | .xorL | .xormHL | .xorA | .orB | .orC | .orD | .orE | .orH | .orL | .ormHL => false
  | .orA | .cpB | .cpC | .cpD | .cpE | .cpH | .cpL | .cpmHL | .cpA | .jpNZ_nn _ => false
  | .jp_nn _ | .addA_n _ | .jpZ_nn _ | .cbPrefix | .adcA_n _ | .jpNC_nn _ | .outmn_A _ | .sub_n _ | .exx | .jpC_nn _ => false
  | .inA_mn _ | .ddPrefix | .sbcA_n _ | .jpPO_nn _ | .exmSP_HL | .and_n _ | .jpHL | .jpPE_nn _ | .exDE_HL | .edPrefix => false
  | .xor_n _ | .jpP_nn _ | .di | .or_n _ | .jpM_nn _ | .ei | .fdPrefix | .cp_n _ => false
  | .ldSP_nn _ | .incSP | .decSP | .retNZ | .popBC | .callNZ_nn _ | .pushBC | .rst00 | .retZ | .ret => true
  | .callZ_nn _ | .call_nn _ | .rst08 | .retNC | .popDE | .callNC_nn _ | .pushDE | .rst10 | .retC | .callC_nn _ => true
  | .rst18 | .retPO | .popHL | .callPO_nn _ | .pushHL | .rst20 | .retPE | .callPE_nn _ | .rst28 | .retP => true
  | .popAF | .callP_nn _ | .pushAF | .rst30 | .retM | .ldSP_HL | .callM_nn _ | .rst38 => true

/-- The addresses an instruction stores to, from the state before it (R57 and the rules of files 41, 42, 44, 45). -/
def storeAddrs (i : Instr) (s : State) : List Word :=
  match i with
  | .incmHL | .decmHL | .ldmHL_n _ | .ldmHL_B | .ldmHL_C | .ldmHL_D | .ldmHL_E | .ldmHL_H | .ldmHL_L | .ldmHL_A => [s.hl]
  | .ldmBC_A => [s.bc]
  | .ldmDE_A => [s.de]
  | .ldmnn_A nn => [nn]
  | .ldmnn_HL nn => [nn, nn + 1]
  | .pushBC | .pushDE | .pushHL | .pushAF | .rst00 | .rst08 | .rst10 | .rst18 | .rst20 | .rst28 | .rst30 | .rst38 | .call_nn _ => [s.sp - 1, s.sp - 2]
  | .callNZ_nn _ => if s.cond .nz then [s.sp - 1, s.sp - 2] else []
  | .callZ_nn _ => if s.cond .z then [s.sp - 1, s.sp - 2] else []
  | .callNC_nn _ => if s.cond .nc then [s.sp - 1, s.sp - 2] else []
  | .callC_nn _ => if s.cond .c then [s.sp - 1, s.sp - 2] else []
  | .callPO_nn _ => if s.cond .po then [s.sp - 1, s.sp - 2] else []
  | .callPE_nn _ => if s.cond .pe then [s.sp - 1, s.sp - 2] else []
  | .callP_nn _ => if s.cond .p then [s.sp - 1, s.sp - 2] else []
  | .callM_nn _ => if s.cond .m then [s.sp - 1, s.sp - 2] else []
  | .exmSP_HL => [s.sp, s.sp + 1]
  | .nop | .ldBC_nn _ | .incBC | .incB | .decB | .ldB_n _ | .rlca | .exAF_AF | .addHL_BC | .ldA_mBC => []
  | .decBC | .incC | .decC | .ldC_n _ | .rrca | .djnz_e _ | .ldDE_nn _ | .incDE | .incD | .decD => []
  | .ldD_n _ | .rla | .jr_e _ | .addHL_DE | .ldA_mDE | .decDE | .incE | .decE | .ldE_n _ | .rra => []
  | .jrNZ_e _ | .ldHL_nn _ | .incHL | .incH | .decH | .ldH_n _ | .daa | .jrZ_e _ | .addHL_HL | .ldHL_mnn _ => []
  | .decHL | .incL | .decL | .ldL_n _ | .cpl | .jrNC_e _ | .ldSP_nn _ | .incSP | .scf | .jrC_e _ => []
  | .addHL_SP | .ldA_mnn _ | .decSP | .incA | .decA | .ldA_n _ | .ccf | .ldB_B | .ldB_C | .ldB_D => []
  | .ldB_E | .ldB_H | .ldB_L | .ldB_mHL | .ldB_A | .ldC_B | .ldC_C | .ldC_D | .ldC_E | .ldC_H => []
  | .ldC_L | .ldC_mHL | .ldC_A | .ldD_B | .ldD_C | .ldD_D | .ldD_E | .ldD_H | .ldD_L | .ldD_mHL => []
  | .ldD_A | .ldE_B | .ldE_C | .ldE_D | .ldE_E | .ldE_H | .ldE_L | .ldE_mHL | .ldE_A | .ldH_B => []
  | .ldH_C | .ldH_D | .ldH_E | .ldH_H | .ldH_L | .ldH_mHL | .ldH_A | .ldL_B | .ldL_C | .ldL_D => []
  | .ldL_E | .ldL_H | .ldL_L | .ldL_mHL | .ldL_A | .halt | .ldA_B | .ldA_C | .ldA_D | .ldA_E => []
  | .ldA_H | .ldA_L | .ldA_mHL | .ldA_A | .addA_B | .addA_C | .addA_D | .addA_E | .addA_H | .addA_L => []
  | .addA_mHL | .addA_A | .adcA_B | .adcA_C | .adcA_D | .adcA_E | .adcA_H | .adcA_L | .adcA_mHL | .adcA_A => []
  | .subB | .subC | .subD | .subE | .subH | .subL | .submHL | .subA | .sbcA_B | .sbcA_C => []
  | .sbcA_D | .sbcA_E | .sbcA_H | .sbcA_L | .sbcA_mHL | .sbcA_A | .andB | .andC | .andD | .andE => []
  | .andH | .andL | .andmHL | .andA | .xorB | .xorC | .xorD | .xorE | .xorH | .xorL => []
  | .xormHL | .xorA | .orB | .orC | .orD | .orE | .orH | .orL | .ormHL | .orA => []
  | .cpB | .cpC | .cpD | .cpE | .cpH | .cpL | .cpmHL | .cpA | .retNZ | .popBC => []
  | .jpNZ_nn _ | .jp_nn _ | .addA_n _ | .retZ | .ret | .jpZ_nn _ | .cbPrefix | .adcA_n _ | .retNC | .popDE => []
  | .jpNC_nn _ | .outmn_A _ | .sub_n _ | .retC | .exx | .jpC_nn _ | .inA_mn _ | .ddPrefix | .sbcA_n _ | .retPO => []
  | .popHL | .jpPO_nn _ | .and_n _ | .retPE | .jpHL | .jpPE_nn _ | .exDE_HL | .edPrefix | .xor_n _ | .retP => []
  | .popAF | .jpP_nn _ | .di | .or_n _ | .retM | .ldSP_HL | .jpM_nn _ | .ei | .fdPrefix | .cp_n _ => []

/-- Whether an instruction is a control transfer (files 41): its pc is not simply the address after it. -/
def isTransfer : Instr → Bool
  | .nop | .ldBC_nn _ | .ldmBC_A | .incBC | .incB | .decB | .ldB_n _ | .rlca | .exAF_AF | .addHL_BC => false
  | .ldA_mBC | .decBC | .incC | .decC | .ldC_n _ | .rrca | .ldDE_nn _ | .ldmDE_A | .incDE | .incD => false
  | .decD | .ldD_n _ | .rla | .addHL_DE | .ldA_mDE | .decDE | .incE | .decE | .ldE_n _ | .rra => false
  | .ldHL_nn _ | .ldmnn_HL _ | .incHL | .incH | .decH | .ldH_n _ | .daa | .addHL_HL | .ldHL_mnn _ | .decHL => false
  | .incL | .decL | .ldL_n _ | .cpl | .ldSP_nn _ | .ldmnn_A _ | .incSP | .incmHL | .decmHL | .ldmHL_n _ => false
  | .scf | .addHL_SP | .ldA_mnn _ | .decSP | .incA | .decA | .ldA_n _ | .ccf | .ldB_B | .ldB_C => false
  | .ldB_D | .ldB_E | .ldB_H | .ldB_L | .ldB_mHL | .ldB_A | .ldC_B | .ldC_C | .ldC_D | .ldC_E => false
  | .ldC_H | .ldC_L | .ldC_mHL | .ldC_A | .ldD_B | .ldD_C | .ldD_D | .ldD_E | .ldD_H | .ldD_L => false
  | .ldD_mHL | .ldD_A | .ldE_B | .ldE_C | .ldE_D | .ldE_E | .ldE_H | .ldE_L | .ldE_mHL | .ldE_A => false
  | .ldH_B | .ldH_C | .ldH_D | .ldH_E | .ldH_H | .ldH_L | .ldH_mHL | .ldH_A | .ldL_B | .ldL_C => false
  | .ldL_D | .ldL_E | .ldL_H | .ldL_L | .ldL_mHL | .ldL_A | .ldmHL_B | .ldmHL_C | .ldmHL_D | .ldmHL_E => false
  | .ldmHL_H | .ldmHL_L | .halt | .ldmHL_A | .ldA_B | .ldA_C | .ldA_D | .ldA_E | .ldA_H | .ldA_L => false
  | .ldA_mHL | .ldA_A | .addA_B | .addA_C | .addA_D | .addA_E | .addA_H | .addA_L | .addA_mHL | .addA_A => false
  | .adcA_B | .adcA_C | .adcA_D | .adcA_E | .adcA_H | .adcA_L | .adcA_mHL | .adcA_A | .subB | .subC => false
  | .subD | .subE | .subH | .subL | .submHL | .subA | .sbcA_B | .sbcA_C | .sbcA_D | .sbcA_E => false
  | .sbcA_H | .sbcA_L | .sbcA_mHL | .sbcA_A | .andB | .andC | .andD | .andE | .andH | .andL => false
  | .andmHL | .andA | .xorB | .xorC | .xorD | .xorE | .xorH | .xorL | .xormHL | .xorA => false
  | .orB | .orC | .orD | .orE | .orH | .orL | .ormHL | .orA | .cpB | .cpC => false
  | .cpD | .cpE | .cpH | .cpL | .cpmHL | .cpA | .popBC | .pushBC | .addA_n _ | .cbPrefix => false
  | .adcA_n _ | .popDE | .outmn_A _ | .pushDE | .sub_n _ | .exx | .inA_mn _ | .ddPrefix | .sbcA_n _ | .popHL => false
  | .exmSP_HL | .pushHL | .and_n _ | .exDE_HL | .edPrefix | .xor_n _ | .popAF | .di | .pushAF | .or_n _ => false
  | .ldSP_HL | .ei | .fdPrefix | .cp_n _ => false
  | .djnz_e _ | .jr_e _ | .jrNZ_e _ | .jrZ_e _ | .jrNC_e _ | .jrC_e _ | .retNZ | .jpNZ_nn _ | .jp_nn _ | .callNZ_nn _ => true
  | .rst00 | .retZ | .ret | .jpZ_nn _ | .callZ_nn _ | .call_nn _ | .rst08 | .retNC | .jpNC_nn _ | .callNC_nn _ => true
  | .rst10 | .retC | .jpC_nn _ | .callC_nn _ | .rst18 | .retPO | .jpPO_nn _ | .callPO_nn _ | .rst20 | .retPE => true
  | .jpHL | .jpPE_nn _ | .callPE_nn _ | .rst28 | .retP | .jpP_nn _ | .callP_nn _ | .rst30 | .retM | .jpM_nn _ => true
  | .callM_nn _ | .rst38 => true

/-- The rows of the flag table R40. `carryOnly` is the row of the rotates and of ADD HL,ss; `unchanged` is its last. -/
inductive FlagRow where
  | addFamily | subFamily | logic | cpl | scf | ccf | carryOnly | popAF | unchanged
deriving DecidableEq, Repr

/-- The row of R40 an instruction stands in. -/
def flagRow : Instr → FlagRow
  | .nop | .ldBC_nn _ | .ldmBC_A | .incBC | .ldB_n _ | .exAF_AF | .ldA_mBC | .decBC | .ldC_n _ | .djnz_e _ => .unchanged
  | .ldDE_nn _ | .ldmDE_A | .incDE | .ldD_n _ | .jr_e _ | .ldA_mDE | .decDE | .ldE_n _ | .jrNZ_e _ | .ldHL_nn _ => .unchanged
  | .ldmnn_HL _ | .incHL | .ldH_n _ | .daa | .jrZ_e _ | .ldHL_mnn _ | .decHL | .ldL_n _ | .jrNC_e _ | .ldSP_nn _ => .unchanged
  | .ldmnn_A _ | .incSP | .ldmHL_n _ | .jrC_e _ | .ldA_mnn _ | .decSP | .ldA_n _ | .ldB_B | .ldB_C | .ldB_D => .unchanged
  | .ldB_E | .ldB_H | .ldB_L | .ldB_mHL | .ldB_A | .ldC_B | .ldC_C | .ldC_D | .ldC_E | .ldC_H => .unchanged
  | .ldC_L | .ldC_mHL | .ldC_A | .ldD_B | .ldD_C | .ldD_D | .ldD_E | .ldD_H | .ldD_L | .ldD_mHL => .unchanged
  | .ldD_A | .ldE_B | .ldE_C | .ldE_D | .ldE_E | .ldE_H | .ldE_L | .ldE_mHL | .ldE_A | .ldH_B => .unchanged
  | .ldH_C | .ldH_D | .ldH_E | .ldH_H | .ldH_L | .ldH_mHL | .ldH_A | .ldL_B | .ldL_C | .ldL_D => .unchanged
  | .ldL_E | .ldL_H | .ldL_L | .ldL_mHL | .ldL_A | .ldmHL_B | .ldmHL_C | .ldmHL_D | .ldmHL_E | .ldmHL_H => .unchanged
  | .ldmHL_L | .halt | .ldmHL_A | .ldA_B | .ldA_C | .ldA_D | .ldA_E | .ldA_H | .ldA_L | .ldA_mHL => .unchanged
  | .ldA_A | .retNZ | .popBC | .jpNZ_nn _ | .jp_nn _ | .callNZ_nn _ | .pushBC | .rst00 | .retZ | .ret => .unchanged
  | .jpZ_nn _ | .cbPrefix | .callZ_nn _ | .call_nn _ | .rst08 | .retNC | .popDE | .jpNC_nn _ | .outmn_A _ | .callNC_nn _ => .unchanged
  | .pushDE | .rst10 | .retC | .exx | .jpC_nn _ | .inA_mn _ | .callC_nn _ | .ddPrefix | .rst18 | .retPO => .unchanged
  | .popHL | .jpPO_nn _ | .exmSP_HL | .callPO_nn _ | .pushHL | .rst20 | .retPE | .jpHL | .jpPE_nn _ | .exDE_HL => .unchanged
  | .callPE_nn _ | .edPrefix | .rst28 | .retP | .jpP_nn _ | .di | .callP_nn _ | .pushAF | .rst30 | .retM => .unchanged
  | .ldSP_HL | .jpM_nn _ | .ei | .callM_nn _ | .fdPrefix | .rst38 => .unchanged
  | .incB | .incC | .incD | .incE | .incH | .incL | .incmHL | .incA | .addA_B | .addA_C => .addFamily
  | .addA_D | .addA_E | .addA_H | .addA_L | .addA_mHL | .addA_A | .adcA_B | .adcA_C | .adcA_D | .adcA_E => .addFamily
  | .adcA_H | .adcA_L | .adcA_mHL | .adcA_A | .addA_n _ | .adcA_n _ => .addFamily
  | .decB | .decC | .decD | .decE | .decH | .decL | .decmHL | .decA | .subB | .subC => .subFamily
  | .subD | .subE | .subH | .subL | .submHL | .subA | .sbcA_B | .sbcA_C | .sbcA_D | .sbcA_E => .subFamily
  | .sbcA_H | .sbcA_L | .sbcA_mHL | .sbcA_A | .cpB | .cpC | .cpD | .cpE | .cpH | .cpL => .subFamily
  | .cpmHL | .cpA | .sub_n _ | .sbcA_n _ | .cp_n _ => .subFamily
  | .rlca | .addHL_BC | .rrca | .rla | .addHL_DE | .rra | .addHL_HL | .addHL_SP => .carryOnly
  | .cpl => .cpl
  | .scf => .scf
  | .ccf => .ccf
  | .andB | .andC | .andD | .andE | .andH | .andL | .andmHL | .andA | .xorB | .xorC => .logic
  | .xorD | .xorE | .xorH | .xorL | .xormHL | .xorA | .orB | .orC | .orD | .orE => .logic
  | .orH | .orL | .ormHL | .orA | .and_n _ | .xor_n _ | .or_n _ => .logic
  | .popAF => .popAF

/-! ## What the flag procedures leave (R37)

H, and N after the logical family and the instructions of file 46, are draws: nothing here constrains them. -/

/-- Bits 3 and 5 of F are as before (R29). -/
def UnusedKept (s t : State) : Prop := t.f.getLsbD 3 = s.f.getLsbD 3 ∧ t.f.getLsbD 5 = s.f.getLsbD 5

/-- S, Z and PV are those of the 8-bit result (R31 to R33). -/
def ResultFlags (t : State) (r8 : Byte) : Prop :=
  t.flag .s = r8.getLsbD 7 ∧ t.flag .z = decide (r8 = 0) ∧ t.flag .pv = r8.getLsbD 7

/-- The flags `ArithFlags` leaves (R37): C is set-only, from the exact result; N is set by the subtraction family only. -/
def ArithFlagsHold (s t : State) (r8 : Byte) (raw : Int) (sub : Bool) : Prop :=
  ResultFlags t r8 ∧ t.flag .c = (s.flag .c || decide (raw > 255)) ∧ t.flag .n = (s.flag .n || sub) ∧ UnusedKept s t

/-- The flags `LogicFlags` leaves (R37). -/
def LogicFlagsHold (s t : State) (r8 : Byte) : Prop :=
  ResultFlags t r8 ∧ t.flag .c = false ∧ UnusedKept s t

/-- S, Z and PV are as before. -/
def ResultFlagsKept (s t : State) : Prop :=
  t.flag .s = s.flag .s ∧ t.flag .z = s.flag .z ∧ t.flag .pv = s.flag .pv

/-- What the row of R40 says of an instruction's flags, beside the values its own rule computes. -/
def FlagRowHolds (row : FlagRow) (s t : State) : Prop :=
  match row with
  | .addFamily => t.flag .pv = t.flag .s ∧ t.flag .n = s.flag .n ∧ (s.flag .c = true → t.flag .c = true) ∧ UnusedKept s t
  | .subFamily => t.flag .pv = t.flag .s ∧ t.flag .n = true ∧ t.flag .c = s.flag .c ∧ UnusedKept s t
  | .logic => t.flag .pv = t.flag .s ∧ t.flag .c = false ∧ UnusedKept s t
  | .cpl => ResultFlagsKept s t ∧ t.flag .c = s.flag .c ∧ UnusedKept s t
  | .scf => ResultFlagsKept s t ∧ t.flag .c = true ∧ UnusedKept s t
  | .ccf => ResultFlagsKept s t ∧ t.flag .c = !s.flag .c ∧ UnusedKept s t
  | .carryOnly => ResultFlagsKept s t ∧ UnusedKept s t
  | .popAF => t.f = s.memRead s.sp
  | .unchanged => t.f = s.f

/-- Two states that differ at most in the flags H and N and in how many bits have been drawn. -/
def AgreeButHN (s s' : State) : Prop :=
  s' = { s with f := s'.f, draws := s'.draws } ∧ ∀ j, j ≠ 4 → j ≠ 1 → s'.f.getLsbD j = s.f.getLsbD j

end Sys2Proof.Machine
end

