-- ==== Sys2Proof/Certificates/Slice0/Obligations.lean ====
section
/-! DEFINITION. The statements about the machine, from the numbered rules of the spec. A statement whose rules carry the
spec's own decision (92_eei_decisions.md D<n>) or its mark "derived" or "from general knowledge" for what is stated has basis
`derived`, and its docstring names the decision. -/
open Sys2Proof Sys2Proof.Machine

/-! ## Encoding and decoding -/

/-- Decoding the bytes of a well-formed instruction gives it back, with every operand, and consumes exactly its bytes
(30_encoding.md sections 1 and 2: R80 to R88; the map is the spec's decision D9). -/
def Obligations.DecodeOfEncode : Prop :=
  ∀ (i : Instr) (rest : List Byte), i.WellFormed → decodeBytes (encode i ++ rest) = .ok (i, rest)

/-- Whatever three bytes stand at an address, they begin a well-formed instruction whose encoding is a leading part of them,
as long as the opcode byte alone says (30_encoding.md section 1: R83; section 3: R89, R90). -/
def Obligations.EncodeOfDecode : Prop :=
  ∀ op b1 b2 : Byte, (decode3 op b1 b2).WellFormed ∧ encode (decode3 op b1 b2) = [op, b1, b2].take (lengthOf op)

/-- The code of every operand in its field (10_state.md sections 1 and 4: R24, R25, R39; 30_encoding.md section 1: R81), and the
bytes of every form with operand fields, by the fields of the opcode byte (30_encoding.md sections 1 and 2: R84 to R87; the
spec's decision D9 and its general knowledge G1, G2, G4). -/
def Obligations.FormEncodingFields : Prop :=
  ([Reg8.b, .c, .d, .e, .h, .l].map Reg8.code = [0, 1, 2, 3, 4, 5] ∧ Reg8.code .a = 7)
  ∧ ((∀ r, (Operand8.reg r).code = r.code) ∧ Operand8.code .mHL = 6)
  ∧ [RegDD.bc, .de, .hl, .sp].map RegDD.code = [0, 1, 2, 3] ∧ [RegQQ.bc, .de, .hl, .af].map RegQQ.code = [0, 1, 2, 3]
  ∧ [Cond.nz, .z, .nc, .c, .po, .pe, .p, .m].map Cond.code = [0, 1, 2, 3, 4, 5, 6, 7]
  ∧ [CondJR.nz, .z, .nc, .c].map CondJR.code = [0, 1, 2, 3]
  ∧ [AluOp.add, .adc, .sub, .sbc, .and, .xor, .or, .cp].map AluOp.code = [0, 1, 2, 3, 4, 5, 6, 7]
  ∧ (∀ d r : Operand8, encode (Form.ld d r) = [1#2 ++ d.code ++ r.code]) ∧ Form.ld .mHL .mHL = .halt
  ∧ (∀ (d : Operand8) (n : Byte), encode (Form.ldImm d n) = [0#2 ++ d.code ++ 6#3, n])
  ∧ (∀ d : Operand8, encode (Form.inc d) = [0#2 ++ d.code ++ 4#3] ∧ encode (Form.dec d) = [0#2 ++ d.code ++ 5#3])
  ∧ (∀ (op : AluOp) (o : Operand8), encode (Form.alu op (.op o)) = [2#2 ++ op.code ++ o.code])
  ∧ (∀ (op : AluOp) (n : Byte), encode (Form.alu op (.imm n)) = [3#2 ++ op.code ++ 6#3, n])
  ∧ (∀ (r : RegDD) (nn : Word), encode (Form.ldDD r nn) = [0#2 ++ r.code ++ 1#4, loByte nn, hiByte nn])
  ∧ (∀ r : RegDD, encode (Form.addHL r) = [0#2 ++ r.code ++ 9#4] ∧ encode (Form.incDD r) = [0#2 ++ r.code ++ 3#4]
      ∧ encode (Form.decDD r) = [0#2 ++ r.code ++ 11#4])
  ∧ (∀ p : RegQQ, encode (Form.push p) = [3#2 ++ p.code ++ 5#4] ∧ encode (Form.pop p) = [3#2 ++ p.code ++ 1#4])
  ∧ (∀ (cc : Cond) (nn : Word), encode (Form.jpCc cc nn) = [3#2 ++ cc.code ++ 2#3, loByte nn, hiByte nn]
      ∧ encode (Form.callCc cc nn) = [3#2 ++ cc.code ++ 4#3, loByte nn, hiByte nn]
      ∧ encode (Form.retCc cc) = [3#2 ++ cc.code ++ 0#3])
  ∧ (∀ (cc : CondJR) (e : Int), encode (Form.jrCc cc e) = [1#3 ++ cc.code ++ 0#3, BitVec.ofInt 8 e])
  ∧ (∀ t : Fin 8, encode (Form.rst t) = [3#2 ++ BitVec.ofNat 3 t.val ++ 7#3])

/-- Words written out from the spec's encodings, one of every family, decode to the instructions they stand for (R88 and the
encoding line of R105, R127, R131, R152, R211, R212, R240, R244, R277, R301 and R200; a sanity check). -/
def Obligations.WrittenWordsDecode : Prop :=
  decodeBytes [0b00000000] = .ok (.nop, [])
  ∧ decodeBytes [0b01110110, 0x05] = .ok (.halt, [0x05])
  ∧ decodeBytes [0b00011000, 0b11111110] = .ok (.jr_e (-2), [])
  ∧ decodeBytes [0b11001101, 0x00, 0x20] = .ok (.call_nn 0x2000, [])
  ∧ decodeBytes [0b11000110, 0x01] = .ok (.addA_n 0x01, [])
  ∧ decodeBytes [0b00111110, 0x05] = .ok (.ldA_n 0x05, [])
  ∧ decodeBytes [0b01100110] = .ok (.ldH_mHL, [])
  ∧ decodeBytes [0b00000001, 0x34, 0x12] = .ok (.ldBC_nn 0x1234, [])
  ∧ decodeBytes [0b11110101] = .ok (.pushAF, [])
  ∧ decodeBytes [0b00000111] = .ok (.rlca, [])
  ∧ decodeBytes [0b11011011, 0x03] = .ok (.inA_mn 0x03, [])
  ∧ decodeBytes [0b11001011, 0x47] = .ok (.cbPrefix, [0x47])

/-! ## The step -/

/-- When the core has no fault and the bytes at pc decode to a well-formed instruction, the step is `exec` of it and nothing
else: no pc movement, no delay slot, nothing around it (40_dispatch.md R100, R102; 20_memory.md R54; the fault test is the
spec's decision D18). -/
def Obligations.StepRunsDecodedInstruction : Prop :=
  ∀ (s : State) (i : Instr) (rest : List Byte), s.fault = none → i.WellFormed →
    decodeBytes [s.memRead s.pc, s.memRead (s.pc + 1), s.memRead (s.pc + 2)] = .ok (i, rest) → step s = exec i s

/-- The dispatcher is total: every instruction in every state, and every step, answers a next state (40_dispatch.md section
1: R101; 30_encoding.md section 3: R90). -/
def Obligations.StepAlwaysAnswersNext : Prop :=
  (∀ (i : Instr) (s : State), ∃ t, exec i s = .next t) ∧ ∀ s : State, ∃ t, step s = .next t

/-- A faulted core is quiescent, for any number of steps (60_exceptions.md R404, 40_dispatch.md R109; the spec's decision
D18). -/
def Obligations.FaultedCoreQuiescent : Prop :=
  ∀ s : State, s.Faulted → ∀ k : Nat, Sys2Proof.core.run k s = .next s

/-- A halted core stays as it is, for any number of steps (40_dispatch.md R106, R109; the spec's decisions D17, D32). -/
def Obligations.HaltedCoreStays : Prop :=
  ∀ s : State, s.Halted → ∀ k : Nat, Sys2Proof.core.run k s = .next s

/-! ## Reset and the host -/

/-- What reset leaves for any parameters: every register but PC and SP zero, PC, SP and the ports at the parameters, every
memory cell 0x00, no fault; and `State.reset` is that reset with PC_RESET at its default 0 (R46, R450, R451, R453, decisions
D14, D15, D18, D30). That `State.reset` takes SP_RESET 0 and zero ports is the MODEL's choice (notes/assumptions/3.md and
4.md) and is not stated. -/
def Obligations.ResetValues : Prop :=
  (∀ p : ResetParams, (∀ r, (State.resetWith p).get8 r = 0x00) ∧ (State.resetWith p).f = 0x00
    ∧ (State.resetWith p).ix = 0x0000 ∧ (State.resetWith p).iy = 0x0000
    ∧ (State.resetWith p).pc = p.pcReset ∧ (State.resetWith p).sp = p.spReset
    ∧ (∀ a, (State.resetWith p).memRead a = 0x00) ∧ (State.resetWith p).ports = p.portsInit
    ∧ (State.resetWith p).fault = none)
  ∧ ∃ p : ResetParams, State.reset = State.resetWith p ∧ p.pcReset = 0x0000

/-- The ROM load contract (70_reset_and_hazards.md section 2: R458): an image of at most 32,767 bytes lands verbatim at address 0, leaves every other cell and all
other state as it was and answers true; a larger one changes nothing and answers false. -/
def Obligations.RomLoadContract : Prop :=
  ∀ (s : State) (image : List Byte),
    (image.length ≤ 32767 →
      (s.loadRom image).2 = true
      ∧ (∀ (i : Nat) (h : i < image.length), (s.loadRom image).1.memRead (BitVec.ofNat 16 i) = image[i])
      ∧ (∀ a : Word, image.length ≤ a.toNat → (s.loadRom image).1.memRead a = s.memRead a)
      ∧ (s.loadRom image).1 = { s with mem := (s.loadRom image).1.mem })
    ∧ (32767 < image.length → s.loadRom image = (s, false))

/-! ## Memory, stack, registers, flags as storage -/

/-- A byte read after a byte write (R52): the written cell gives the value, every other cell and all other state is as
before. -/
def Obligations.ByteReadAfterWrite : Prop :=
  ∀ (s : State) (a b : Word) (v : Byte),
    (s.memWrite a v).memRead b = (if b = a then v else s.memRead b)
    ∧ s.memWrite a v = { s with mem := (s.memWrite a v).mem }

/-- A 16-bit access is two byte accesses, low byte at the lower address, wrapping at the top (20_memory.md section 1: R53,
R55; the spec's decision D21): the word written is read back, its bytes are where the byte accesses see them, and no other
cell changes. The low byte is bits 7:0 of the word, the high byte bits 15:8 (R53). -/
def Obligations.WordAccessLittleEndian : Prop :=
  ∀ (s : State) (a : Word) (v : Word),
    loByte v = v.extractLsb' 0 8 ∧ hiByte v = v.extractLsb' 8 8
    ∧ (s.memWrite16 a v).memRead16 a = v
    ∧ (s.memWrite16 a v).memRead a = loByte v
    ∧ (s.memWrite16 a v).memRead (a + 1) = hiByte v
    ∧ (∀ b, b ≠ a → b ≠ a + 1 → (s.memWrite16 a v).memRead b = s.memRead b)
    ∧ (s.memRead16 a).toNat = (s.memRead a).toNat + 256 * (s.memRead (a + 1)).toNat

/-- A 16-bit value pushed is read back by the pop, and SP is restored, for every value and every SP; the push writes only the
two cells below SP (20_memory.md section 2: R60 to R62; the spec's decision D3). -/
def Obligations.PushPopRoundTrip : Prop :=
  ∀ (s : State) (v : Word),
    (s.push16 v).pop16 = (v, { s with mem := (s.push16 v).mem })
    ∧ (s.push16 v).sp = s.sp - 2
    ∧ ∀ a, a ≠ s.sp - 1 → a ≠ s.sp - 2 → (s.push16 v).memRead a = s.memRead a

/-- Register pairs are views of the 8-bit registers (R23), which are storage (R20, R21): each accessor reads its own register;
a register read after a write; a pair read gives the high register above the low one; a pair write splits the word; reading it
back gives the word; and every register that is none of the pair, and all other state, is as before. -/
def Obligations.RegisterPairViews : Prop :=
  (∀ s : State, s.get8 .a = s.a ∧ s.get8 .b = s.b ∧ s.get8 .c = s.c ∧ s.get8 .d = s.d ∧ s.get8 .e = s.e ∧ s.get8 .h = s.h
    ∧ s.get8 .l = s.l)
  ∧ (∀ (s : State) (r q : Reg8) (v : Byte),
    (s.set8 r v).get8 q = (if q = r then v else s.get8 q)
    ∧ s.set8 r v = { s.set8 r v with
        f := s.f, ix := s.ix, iy := s.iy, sp := s.sp, pc := s.pc, mem := s.mem, ports := s.ports, fault := s.fault })
  ∧ (∀ s : State, s.get16 .bc = s.b ++ s.c ∧ s.get16 .de = s.d ++ s.e ∧ s.get16 .hl = s.h ++ s.l
      ∧ s.get16 .af = s.a ++ s.f ∧ s.bc = s.b ++ s.c ∧ s.de = s.d ++ s.e ∧ s.hl = s.h ++ s.l)
  ∧ (∀ (s : State) (v : Word),
      s.set16 .bc v = { s with b := v.extractLsb' 8 8, c := v.extractLsb' 0 8 }
      ∧ s.set16 .de v = { s with d := v.extractLsb' 8 8, e := v.extractLsb' 0 8 }
      ∧ s.set16 .hl v = { s with h := v.extractLsb' 8 8, l := v.extractLsb' 0 8 }
      ∧ s.set16 .af v = { s with a := v.extractLsb' 8 8, f := v.extractLsb' 0 8 })
  ∧ (∀ (s : State) (p : RegQQ) (v : Word), (s.set16 p v).get16 p = v)

/-- F's bit layout, with the exact positions (10_state.md section 2: R28), and a flag operation writes only its own bit (section 3:
R30); the raw byte is observable by PUSH AF, which stores it at SP-2 (45_load16_stack.md section 2: R244; 20_memory.md section 2:
R60, whose high-byte-first order is the spec's decision D3). -/
def Obligations.FlagBitLayout : Prop :=
  (∀ s : State, s.flag .c = s.f.getLsbD 0 ∧ s.flag .n = s.f.getLsbD 1 ∧ s.flag .pv = s.f.getLsbD 2
    ∧ s.flag .h = s.f.getLsbD 4 ∧ s.flag .z = s.f.getLsbD 6 ∧ s.flag .s = s.f.getLsbD 7)
  ∧ (∀ (s : State) (g : Flag) (b : Bool) (j : Nat),
      (s.putFlag g b).f.getLsbD j = (if j = g.bit then b else s.f.getLsbD j) ∧ s.putFlag g b = { s with f := (s.putFlag g b).f })
  ∧ (∀ s : State, ∃ t, exec .pushAF s = .next t ∧ t.memRead (s.sp - 2) = s.f)

/-! ## Invariants and whole-machine rules -/

/-- Every instruction, every step and every action of the host keeps memory in its canonical form (the model's own form of
the memory of R42, R50, R451). -/
def Obligations.MemoryStaysCanonical : Prop :=
  (∀ (i : Instr) (s t : State), s.mem.Wf → exec i s = .next t → t.mem.Wf)
  ∧ (∀ s t : State, s.mem.Wf → step s = .next t → t.mem.Wf)
  ∧ ∀ (act : HostAction) (s t : State), s.mem.Wf → hostAct act s = .next t → t.mem.Wf

/-- Memory is in its canonical form after reset. -/
def Obligations.MemoryCanonicalAtReset : Prop := State.reset.mem.Wf ∧ ∀ p : ResetParams, (State.resetWith p).mem.Wf

/-- In canonical form, memories that read the same at every address are the same data (the model's own form of the memory of
R42, R50). -/
def Obligations.CanonicalMemoryDeterminedByReads : Prop :=
  ∀ s t : State, s.mem.Wf → t.mem.Wf → (∀ a : Word, s.memRead a = t.memRead a) → s.mem = t.mem

/-- IX and IY keep their value for ever: no step changes them (10_state.md section 1: R26, derived in the spec; 43_prefix_hooks.md
R202, R204). -/
def Obligations.IndexRegistersNeverChange : Prop :=
  ∀ s t : State, step s = .next t → t.ix = s.ix ∧ t.iy = s.iy

/-- A fault is precise: a step that records a fault changes nothing else (60_exceptions.md section 1: R401; the spec's decision
D18). That it answers a NEXT state is the model's reading (notes/assumptions/1.md). -/
def Obligations.FaultEntryIsPrecise : Prop :=
  ∀ s t : State, step s = .next t → t.fault ≠ s.fault → t = { s with fault := t.fault }

/-- Which fault a step records, and exactly when (60_exceptions.md section 1: R400, R402, R403, R405; the spec's decisions D2,
D11, D18, D28): PortOutOfRange by IN and OUT on a port number of 16 or more, UnmodelledOpcode by the three opcodes, each with
the address of the opcode; and nothing else. -/
def Obligations.FaultRecordedExactlyWhen : Prop :=
  ∀ s t : State, s.fault = none → step s = .next t →
    (∀ (pc : Word) (n : Byte), t.fault = some (.portOutOfRange pc n) ↔
      pc = s.pc ∧ n = s.memRead (s.pc + 1) ∧ 16 ≤ n.toNat ∧ (s.memRead s.pc = 0xDB ∨ s.memRead s.pc = 0xD3))
    ∧ (∀ (pc : Word) (op : Byte), t.fault = some (.unmodelledOpcode pc op) ↔
      pc = s.pc ∧ op = s.memRead s.pc ∧ (op = 0x08 ∨ op = 0xD9 ∨ op = 0x27))

/-- No instruction but OUT (n),A writes a port (47_io.md section 3: R303, R304), and OUT writes no port but the one its
operand names. -/
def Obligations.PortsWrittenOnlyByOut : Prop :=
  ∀ (i : Instr) (s t : State), exec i s = .next t →
    ((∀ n, i ≠ .outmn_A n) → t.ports = s.ports)
    ∧ ∀ (n : Byte) (k : Nat) (h : k < 16), i = .outmn_A n → k ≠ n.toNat → t.ports[k] = s.ports[k]

/-- EVERY BYTE OF MEMORY outside the addresses an instruction stores to is as before, and an instruction that stores nothing
leaves memory as it is (20_memory.md section 1: R52, R57, derived in the spec). -/
def Obligations.MemoryFrame : Prop :=
  ∀ (i : Instr) (s t : State), exec i s = .next t →
    (∀ a, a ∉ storeAddrs i s → t.memRead a = s.memRead a) ∧ (storeAddrs i s = [] → t.mem = s.mem)

/-- Every general register an instruction does not name as written in the table of R27 is as before, and so is SP (10_state.md
section 1: R27, derived in the spec). -/
def Obligations.RegisterFrame : Prop :=
  ∀ (i : Instr) (s t : State), exec i s = .next t →
    (∀ r, r ∉ destRegs i → t.get8 r = s.get8 r) ∧ (writesSP i = false → t.sp = s.sp)

/-- The flag table (10_state.md section 4: R40, derived in the spec; sections 2, 3: R29, R33 to R35, decisions D5, D7, D19, D24,
D31): what each row leaves of the flags. -/
def Obligations.FlagTable : Prop :=
  ∀ (i : Instr) (s t : State), exec i s = .next t → FlagRowHolds (flagRow i) s t

/-- Only POP AF changes bits 3 and 5 of F (10_state.md section 2: R29; the spec's decision D19): a step that changes one ran
it. -/
def Obligations.UnusedFlagBitsOnlyByPopAF : Prop :=
  ∀ s t : State, step s = .next t → ¬ UnusedKept s t → s.memRead s.pc = 0xF1

/-- A step that runs no control transfer and no HALT and records no fault moves pc by the length of its instruction, modulo
2^16 (40_dispatch.md section 1: R102; the wrap is the spec's decision D1). -/
def Obligations.PcAdvancesByLength : Prop :=
  ∀ s t : State, s.fault = none → isTransfer s.fetch = false → s.fetch ≠ .halt → step s = .next t → t.fault = none →
    t.pc = s.pc + BitVec.ofNat 16 s.fetch.length

/-- No instruction but PUSH AF reads H or N, so neither the draws nor those flags reach anything else (10_state.md section 4:
R40; 00_scope.md R12; the spec's decisions D6, D25): from two states that differ at most in H, N and the draws made, an
instruction answers two states that differ at most there. -/
def Obligations.DrawnFlagsDoNotLeak : Prop :=
  ∀ (i : Instr) (s s' t t' : State), i ≠ .pushAF → AgreeButHN s s' → exec i s = .next t → exec i s' = .next t' →
    AgreeButHN t t'

/-! ## NOP, HALT, DI, EI and the prefixes -/

/-- NOP (R105): opcode 0x00; pc advances by 1, and no register, flag, memory cell or port changes. -/
def Obligations.NopAdvancesPcOnly : Prop :=
  encode .nop = [0x00] ∧ ∀ s : State, exec .nop s = .next { s with pc := s.pc + 1 }

/-- HALT (40_dispatch.md section 2: R106; the spec's decision D17): opcode 0x76; nothing changes, pc included. -/
def Obligations.HaltHoldsEverything : Prop :=
  encode .halt = [0x76] ∧ ∀ s : State, exec .halt s = .next s

/-- DI and EI (40_dispatch.md section 2: R107, R108, decision D20) and the four prefixes with their default hooks
(43_prefix_hooks.md section 1: R200, decision D13) are one-byte no-ops. -/
def Obligations.OneByteNoOps : Prop :=
  encode .di = [0xF3] ∧ encode .ei = [0xFB] ∧ encode .cbPrefix = [0xCB] ∧ encode .ddPrefix = [0xDD]
  ∧ encode .edPrefix = [0xED] ∧ encode .fdPrefix = [0xFD]
  ∧ ∀ s : State, ∀ i ∈ [Instr.di, .ei, .cbPrefix, .ddPrefix, .edPrefix, .fdPrefix],
      exec i s = .next { s with pc := s.pc + 1 }

/-! ## Control flow -/

/-- What each condition is (10_state.md section 4: R38), and which of them JR cc names (R39, general knowledge G4 in the spec). The
primitive `jump` (41_control_flow.md section 1: R120): if the condition holds, pc goes to the target, else pc moves by the length;
nothing else is written. JP nn takes it always and JP cc,nn on its condition, with the length 3 (section 2: R125, R126; the length
is general knowledge G3 in the spec). -/
def Obligations.JumpAbsolute : Prop :=
  (∀ s : State,
    (s.cond .nz = true ↔ s.flag .z = false) ∧ (s.cond .z = true ↔ s.flag .z = true)
    ∧ (s.cond .nc = true ↔ s.flag .c = false) ∧ (s.cond .c = true ↔ s.flag .c = true)
    ∧ (s.cond .po = true ↔ s.flag .pv = false) ∧ (s.cond .pe = true ↔ s.flag .pv = true)
    ∧ (s.cond .p = true ↔ s.flag .s = false) ∧ (s.cond .m = true ↔ s.flag .s = true))
  ∧ (condOfJR .nz = .nz ∧ condOfJR .z = .z ∧ condOfJR .nc = .nc ∧ condOfJR .c = .c)
  ∧ (∀ (s : State) (c : Bool) (target len : Word),
      s.jump c target len = { s with pc := if c = true then target else s.pc + len })
  ∧ (∀ (nn : Word) (s : State), exec (.jp_nn nn) s = .next { s with pc := nn })
  ∧ (∀ (cc : Cond) (nn : Word) (s : State),
      exec (Form.jpCc cc nn) s = .next { s with pc := if s.cond cc = true then nn else s.pc + 3 })

/-- The primitive `relativeJump` (41_control_flow.md section 1: R121): if the condition holds, pc moves by the signed offset from the address after the two
bytes, else by the length, modulo 2^16; nothing else is written. JR e takes it always and JR cc,e on its condition, with the
length 2 (section 2: R127, R128; the length and the four conditions are general knowledge G3, G4 in the spec). What a condition is
stands in `JumpAbsolute`. -/
def Obligations.JumpRelative : Prop :=
  (∀ (s : State) (c : Bool) (e : Int) (len : Word),
      ((s.relativeJump c e len).pc.toNat : Int)
        = (if c = true then (s.pc.toNat : Int) + 2 + e else (s.pc.toNat : Int) + len.toNat) % 65536
      ∧ s.relativeJump c e len = { s with pc := (s.relativeJump c e len).pc })
  ∧ (∀ (e : Int) (s : State), ∃ t, exec (.jr_e e) s = .next t
      ∧ (t.pc.toNat : Int) = ((s.pc.toNat : Int) + 2 + e) % 65536 ∧ t = { s with pc := t.pc })
  ∧ (∀ (cc : CondJR) (e : Int) (s : State), ∃ t, exec (Form.jrCc cc e) s = .next t
      ∧ (t.pc.toNat : Int) = (if s.cond (condOfJR cc) = true then (s.pc.toNat : Int) + 2 + e else (s.pc.toNat : Int) + 2) % 65536
      ∧ t = { s with pc := t.pc })

/-- DJNZ e (41_control_flow.md section 2: R129; the spec's decisions D10, D33): B is decremented modulo 256 and no flag
changes; the jump is taken iff B is then not zero. JP (HL) (R130, decision D10): pc goes to the value of HL, and no memory is
read. -/
def Obligations.DjnzAndJumpHL : Prop :=
  (∀ (e : Int) (s : State), ∃ t, exec (.djnz_e e) s = .next t
      ∧ t.b = s.b - 1
      ∧ (t.pc.toNat : Int) = (if t.b ≠ 0 then (s.pc.toNat : Int) + 2 + e else (s.pc.toNat : Int) + 2) % 65536
      ∧ t = { s with b := t.b, pc := t.pc })
  ∧ (∀ s : State, exec .jpHL s = .next { s with pc := s.h ++ s.l })

/-- CALL nn and CALL cc,nn (41_control_flow.md sections 1, 2: R122, R131, R132; stack order the spec's decision D3): taken, the
address after the three bytes is pushed, high byte at SP-1 and low byte at SP-2, and pc goes to the target; not taken, pc
moves past the three bytes and nothing else changes. -/
def Obligations.CallPushesReturnAddress : Prop :=
  (∀ (i : Instr) (nn : Word) (s : State), (i = .call_nn nn ∨ ∃ cc, i = Form.callCc cc nn ∧ s.cond cc = true) →
    ∃ t, exec i s = .next t
      ∧ t.memRead (s.sp - 1) = hiByte (s.pc + 3) ∧ t.memRead (s.sp - 2) = loByte (s.pc + 3)
      ∧ (∀ a, a ≠ s.sp - 1 → a ≠ s.sp - 2 → t.memRead a = s.memRead a)
      ∧ t = { s with sp := s.sp - 2, pc := nn, mem := t.mem })
  ∧ (∀ (cc : Cond) (nn : Word) (s : State), s.cond cc = false →
      exec (Form.callCc cc nn) s = .next { s with pc := s.pc + 3 })

/-- RET and RET cc (41_control_flow.md sections 1, 2: R123, R133, R134; the spec's decisions D3, D12): taken, pc is the word at SP
and SP moves up by two; not taken, pc advances by 3, not by the length 1. Nothing else changes. -/
def Obligations.ReturnPopsOrSkips : Prop :=
  (∀ s : State, exec .ret s = .next { s with pc := s.memRead (s.sp + 1) ++ s.memRead s.sp, sp := s.sp + 2 })
  ∧ (∀ (cc : Cond) (s : State), exec (Form.retCc cc) s =
      .next (if s.cond cc then { s with pc := s.memRead (s.sp + 1) ++ s.memRead s.sp, sp := s.sp + 2 }
        else { s with pc := s.pc + 3 }))

/-- A taken CALL, then RET with the pushed cells untouched: pc is the address after the three-byte CALL and SP is restored
(41_control_flow.md section 2: the property quoted in R131; 20_memory.md R63; the spec's decision D3). The same for RST, to
the address after its one byte (R135, decision D4). -/
def Obligations.CallThenReturn : Prop :=
  (∀ (nn : Word) (s t u : State), exec (.call_nn nn) s = .next t → u.sp = t.sp → u.memRead u.sp = t.memRead t.sp →
    u.memRead (u.sp + 1) = t.memRead (t.sp + 1) →
    exec .ret u = .next { u with pc := s.pc + 3, sp := s.sp })
  ∧ (∀ (k : Fin 8) (s t u : State), exec (Form.rst k) s = .next t → u.sp = t.sp → u.memRead u.sp = t.memRead t.sp →
    u.memRead (u.sp + 1) = t.memRead (t.sp + 1) →
    exec .ret u = .next { u with pc := s.pc + 1, sp := s.sp })

/-- RST t (41_control_flow.md sections 1, 2: R124, R135; the spec's decision D4): pc + 1 is pushed with SP decremented, and pc goes
to the vector t * 8. -/
def Obligations.RestartPushesAndJumps : Prop :=
  ∀ (k : Fin 8) (s : State), ∃ t, exec (Form.rst k) s = .next t
    ∧ t.memRead (s.sp - 1) = hiByte (s.pc + 1) ∧ t.memRead (s.sp - 2) = loByte (s.pc + 1)
    ∧ (∀ a, a ≠ s.sp - 1 → a ≠ s.sp - 2 → t.memRead a = s.memRead a)
    ∧ t.pc.toNat = k.val * 8
    ∧ t = { s with sp := s.sp - 2, pc := t.pc, mem := t.mem }

/-! ## The 8-bit ALU -/

/-- ADD and ADC, on a register, an immediate and (HL) (42_alu8.md section 2: R151 to R156; 10_state.md R37; the spec's decisions D5,
D6, D8, D26): A is the sum modulo 256, the flags are those of ArithFlags with the exact sum, pc advances by the length; every
other register, every byte of memory, the ports and the fault are as before. H is a draw: nothing is stated of it. What the
operand and the length of an accumulator operation are, for all eight (section 1: R150; the forms are general knowledge G7 in the
spec), stands first. -/
def Obligations.AddAndAdcResult : Prop :=
  (∀ s : State, (∀ r : Reg8, s.aluOperand (.op (.reg r)) = s.get8 r) ∧ s.aluOperand (.op .mHL) = s.memRead (s.h ++ s.l)
    ∧ ∀ n : Byte, s.aluOperand (.imm n) = n)
  ∧ ((∀ o : Operand8, aluLength (.op o) = 1) ∧ ∀ n : Byte, aluLength (.imm n) = 2)
  ∧ (∀ (v : AluSrc) (s : State), ∃ t, exec (Form.alu .add v) s = .next t
    ∧ t.a.toNat = (s.a.toNat + (s.aluOperand v).toNat) % 256
    ∧ ArithFlagsHold s t t.a (s.a.toNat + (s.aluOperand v).toNat) false
    ∧ t = { s with a := t.a, f := t.f, pc := s.pc + aluLength v, draws := t.draws })
  ∧ (∀ (v : AluSrc) (s : State), ∃ t, exec (Form.alu .adc v) s = .next t
    ∧ t.a.toNat = (s.a.toNat + (s.aluOperand v).toNat + (s.flag .c).toNat) % 256
    ∧ ArithFlagsHold s t t.a (s.a.toNat + (s.aluOperand v).toNat + (s.flag .c).toNat) false
    ∧ t = { s with a := t.a, f := t.f, pc := s.pc + aluLength v, draws := t.draws })

/-- SUB and SBC, on a register, an immediate and (HL) (42_alu8.md section 2: R157 to R162; 10_state.md R37; the spec's decisions D5,
D6, D7, D8, D26): A is the difference modulo 256; C is kept, whatever the borrow; N is set; every other register, every byte
of memory, the ports and the fault are as before. H is a draw. -/
def Obligations.SubAndSbcResult : Prop :=
  (∀ (v : AluSrc) (s : State), ∃ t, exec (Form.alu .sub v) s = .next t
    ∧ (t.a.toNat : Int) = ((s.a.toNat : Int) - (s.aluOperand v).toNat) % 256
    ∧ ResultFlags t t.a ∧ t.flag .c = s.flag .c ∧ t.flag .n = true ∧ UnusedKept s t
    ∧ t = { s with a := t.a, f := t.f, pc := s.pc + aluLength v, draws := t.draws })
  ∧ (∀ (v : AluSrc) (s : State), ∃ t, exec (Form.alu .sbc v) s = .next t
    ∧ (t.a.toNat : Int) = ((s.a.toNat : Int) - (s.aluOperand v).toNat - (s.flag .c).toNat) % 256
    ∧ ResultFlags t t.a ∧ t.flag .c = s.flag .c ∧ t.flag .n = true ∧ UnusedKept s t
    ∧ t = { s with a := t.a, f := t.f, pc := s.pc + aluLength v, draws := t.draws })

/-- AND, XOR and OR, on a register, an immediate and (HL) (42_alu8.md section 2: R163 to R171; 10_state.md R37; the spec's decisions
D5, D6, D25, conflict C4): A is the bitwise result, C is cleared, S, Z and PV are the result's; every other register, every
byte of memory, the ports and the fault are as before. H and N are draws. -/
def Obligations.LogicResult : Prop :=
  ∀ (v : AluSrc) (s : State),
    (∃ t, exec (Form.alu .and v) s = .next t ∧ t.a = s.a &&& s.aluOperand v ∧ LogicFlagsHold s t t.a
      ∧ t = { s with a := t.a, f := t.f, pc := s.pc + aluLength v, draws := t.draws })
    ∧ (∃ t, exec (Form.alu .xor v) s = .next t ∧ t.a = s.a ^^^ s.aluOperand v ∧ LogicFlagsHold s t t.a
      ∧ t = { s with a := t.a, f := t.f, pc := s.pc + aluLength v, draws := t.draws })
    ∧ (∃ t, exec (Form.alu .or v) s = .next t ∧ t.a = s.a ||| s.aluOperand v ∧ LogicFlagsHold s t t.a
      ∧ t = { s with a := t.a, f := t.f, pc := s.pc + aluLength v, draws := t.draws })

/-- CP, on a register, an immediate and (HL) (42_alu8.md section 2: R172 to R174; the spec's decisions D5 to D8): the flags of the
difference; Z is set iff A equals the operand; C is kept, so it does not detect A < v; A and everything else is as before. H
is a draw. -/
def Obligations.CompareResult : Prop :=
  ∀ (v : AluSrc) (s : State), ∃ t, exec (Form.alu .cp v) s = .next t
    ∧ ResultFlags t (s.a - s.aluOperand v) ∧ (t.flag .z = true ↔ s.a = s.aluOperand v)
    ∧ t.flag .c = s.flag .c ∧ t.flag .n = true ∧ UnusedKept s t
    ∧ t = { s with f := t.f, pc := s.pc + aluLength v, draws := t.draws }

/-- INC and DEC of a register (42_alu8.md section 3: R175, R177; the spec's decisions D5 to D8, D24): the register wraps modulo
256; INC of 0xFF sets C; DEC keeps C and sets N; only the register, F and pc change. H is a draw. -/
def Obligations.IncDecRegisterResult : Prop :=
  ∀ (r : Reg8) (s : State),
    (∃ t, exec (Form.inc (.reg r)) s = .next t
      ∧ (t.get8 r).toNat = ((s.get8 r).toNat + 1) % 256
      ∧ ArithFlagsHold s t (t.get8 r) ((s.get8 r).toNat + 1) false
      ∧ t = { s.set8 r (t.get8 r) with f := t.f, pc := s.pc + 1, draws := t.draws })
    ∧ (∃ t, exec (Form.dec (.reg r)) s = .next t
      ∧ ((t.get8 r).toNat : Int) = ((s.get8 r).toNat - 1 : Int) % 256
      ∧ ResultFlags t (t.get8 r) ∧ t.flag .c = s.flag .c ∧ t.flag .n = true ∧ UnusedKept s t
      ∧ t = { s.set8 r (t.get8 r) with f := t.f, pc := s.pc + 1, draws := t.draws })

/-- INC (HL) and DEC (HL) (42_alu8.md section 3: R176, R178; the spec's decisions D5 to D8, D24): the byte at HL wraps modulo 256,
with the flags of INC and DEC; every other byte of memory, every register, the ports and the fault are as before. H is a
draw. -/
def Obligations.IncDecMemoryResult : Prop :=
  ∀ s : State,
    (∃ t, exec .incmHL s = .next t
      ∧ (t.memRead s.hl).toNat = ((s.memRead s.hl).toNat + 1) % 256
      ∧ ArithFlagsHold s t (t.memRead s.hl) ((s.memRead s.hl).toNat + 1) false
      ∧ (∀ a, a ≠ s.hl → t.memRead a = s.memRead a)
      ∧ t = { s with mem := t.mem, f := t.f, pc := s.pc + 1, draws := t.draws })
    ∧ (∃ t, exec .decmHL s = .next t
      ∧ ((t.memRead s.hl).toNat : Int) = ((s.memRead s.hl).toNat - 1 : Int) % 256
      ∧ ResultFlags t (t.memRead s.hl) ∧ t.flag .c = s.flag .c ∧ t.flag .n = true ∧ UnusedKept s t
      ∧ (∀ a, a ≠ s.hl → t.memRead a = s.memRead a)
      ∧ t = { s with mem := t.mem, f := t.f, pc := s.pc + 1, draws := t.draws })

/-! ## 8-bit loads -/

/-- LD r,r' (44_load8.md section 1: R210, its opcode bytes from general knowledge in the spec, decision D9): the register holds the source's value, pc advances by 1, and no other register, flag, memory cell or port
changes; a self-copy is a pure pc + 1. -/
def Obligations.LoadRegisterFromRegister : Prop :=
  (∀ dst src : Reg8, encode (Form.ld (.reg dst) (.reg src)) = [1#2 ++ dst.code ++ src.code])
  ∧ ∀ (dst src : Reg8) (s : State), ∃ t, exec (Form.ld (.reg dst) (.reg src)) s = .next t
    ∧ t.get8 dst = s.get8 src ∧ (∀ q, q ≠ dst → t.get8 q = s.get8 q)
    ∧ t = { s with a := t.a, b := t.b, c := t.c, d := t.d, e := t.e, h := t.h, l := t.l, pc := s.pc + 1 }
    ∧ (dst = src → t = { s with pc := s.pc + 1 })

/-- LD r,n (44_load8.md section 1: R211, its opcode bytes but 0x3E from general knowledge in the spec, decision D9): the register holds the immediate, pc advances by 2, and no other register, flag, memory cell or port
changes. -/
def Obligations.LoadRegisterImmediate : Prop :=
  (∀ (dst : Reg8) (n : Byte), encode (Form.ldImm (.reg dst) n) = [0#2 ++ dst.code ++ 6#3, n])
  ∧ ∀ (dst : Reg8) (n : Byte) (s : State), ∃ t, exec (Form.ldImm (.reg dst) n) s = .next t
    ∧ t.get8 dst = n ∧ (∀ q, q ≠ dst → t.get8 q = s.get8 q)
    ∧ t = { s with a := t.a, b := t.b, c := t.c, d := t.d, e := t.e, h := t.h, l := t.l, pc := s.pc + 2 }

/-- LD r,(HL), LD A,(BC), LD A,(DE), LD A,(nn) (44_load8.md sections 2, 3: R212, R215 to R217; the spec's decision D10): the byte at
the address, read with the registers as they were, into the register; pc advances by the length; no flag, memory cell, port
or other register changes. -/
def Obligations.LoadFromMemory : Prop :=
  (∀ (dst : Reg8) (s : State), ∃ t, exec (Form.ld (.reg dst) .mHL) s = .next t
    ∧ t.get8 dst = s.memRead (s.h ++ s.l) ∧ (∀ q, q ≠ dst → t.get8 q = s.get8 q)
    ∧ t = { s with a := t.a, b := t.b, c := t.c, d := t.d, e := t.e, h := t.h, l := t.l, pc := s.pc + 1 })
  ∧ (∀ s : State, exec .ldA_mBC s = .next { s with a := s.memRead (s.b ++ s.c), pc := s.pc + 1 })
  ∧ (∀ s : State, exec .ldA_mDE s = .next { s with a := s.memRead (s.d ++ s.e), pc := s.pc + 1 })
  ∧ (∀ (nn : Word) (s : State), exec (.ldA_mnn nn) s = .next { s with a := s.memRead nn, pc := s.pc + 3 })

/-- LD (HL),r, LD (HL),n, LD (BC),A, LD (DE),A, LD (nn),A (44_load8.md sections 2, 3: R213, R214, R218 to R220; the spec's decisions
D10, D16): the byte is stored at the address, every other byte of memory is as before, pc advances by the length, and no
register, flag or port changes. -/
def Obligations.StoreToMemory : Prop :=
  ∀ s : State,
    (∀ r : Reg8, ∃ t, exec (Form.ld .mHL (.reg r)) s = .next t
      ∧ (∀ a, t.memRead a = if a = s.h ++ s.l then s.get8 r else s.memRead a) ∧ t = { s with mem := t.mem, pc := s.pc + 1 })
    ∧ (∀ n : Byte, ∃ t, exec (.ldmHL_n n) s = .next t
      ∧ (∀ a, t.memRead a = if a = s.h ++ s.l then n else s.memRead a) ∧ t = { s with mem := t.mem, pc := s.pc + 2 })
    ∧ (∃ t, exec .ldmBC_A s = .next t
      ∧ (∀ a, t.memRead a = if a = s.b ++ s.c then s.a else s.memRead a) ∧ t = { s with mem := t.mem, pc := s.pc + 1 })
    ∧ (∃ t, exec .ldmDE_A s = .next t
      ∧ (∀ a, t.memRead a = if a = s.d ++ s.e then s.a else s.memRead a) ∧ t = { s with mem := t.mem, pc := s.pc + 1 })
    ∧ (∀ nn : Word, ∃ t, exec (.ldmnn_A nn) s = .next t
      ∧ (∀ a, t.memRead a = if a = nn then s.a else s.memRead a) ∧ t = { s with mem := t.mem, pc := s.pc + 3 })

/-! ## 16-bit loads, stack, exchanges -/

/-- LD dd,nn (45_load16_stack.md section 1: R240, its opcode bytes from general knowledge in the spec, decision D9): the pair, or SP, holds the immediate word, whose low byte follows the opcode and whose high byte follows
that; pc advances by 3; nothing else changes. -/
def Obligations.LoadPairImmediate : Prop :=
  (∀ (r : RegDD) (nn : Word), encode (Form.ldDD r nn) = [0#2 ++ r.code ++ 1#4, loByte nn, hiByte nn])
  ∧ ∀ (nn : Word) (s : State),
    exec (Form.ldDD .bc nn) s = .next { s with b := nn.extractLsb' 8 8, c := nn.extractLsb' 0 8, pc := s.pc + 3 }
    ∧ exec (Form.ldDD .de nn) s = .next { s with d := nn.extractLsb' 8 8, e := nn.extractLsb' 0 8, pc := s.pc + 3 }
    ∧ exec (Form.ldDD .hl nn) s = .next { s with h := nn.extractLsb' 8 8, l := nn.extractLsb' 0 8, pc := s.pc + 3 }
    ∧ exec (Form.ldDD .sp nn) s = .next { s with sp := nn, pc := s.pc + 3 }

/-- LD HL,(nn), LD (nn),HL, LD SP,HL, EX DE,HL (45_load16_stack.md sections 1, 3: R241 to R243, R246; the spec's decisions D10, D21):
the word in memory has its low byte at nn and its high byte at nn + 1, wrapping; only what is named changes. -/
def Obligations.HLTransfers : Prop :=
  ∀ s : State,
    (∀ nn : Word, exec (.ldHL_mnn nn) s = .next { s with l := s.memRead nn, h := s.memRead (nn + 1), pc := s.pc + 3 })
    ∧ (∀ nn : Word, ∃ t, exec (.ldmnn_HL nn) s = .next t
      ∧ (∀ a, t.memRead a = if a = nn + 1 then s.h else if a = nn then s.l else s.memRead a)
      ∧ t = { s with mem := t.mem, pc := s.pc + 3 })
    ∧ exec .ldSP_HL s = .next { s with sp := s.h ++ s.l, pc := s.pc + 1 }
    ∧ exec .exDE_HL s = .next { s with d := s.h, e := s.l, h := s.d, l := s.e, pc := s.pc + 1 }

/-- PUSH qq (45_load16_stack.md section 2: R244; 20_memory.md R60, R62; the spec's decision D3): the high byte at SP-1, the low byte
at SP-2, all eight bits of F for AF; SP is lower by two; every other byte of memory and everything else is as before. -/
def Obligations.PushStoresPair : Prop :=
  ∀ (p : RegQQ) (s : State), ∃ t, exec (Form.push p) s = .next t
    ∧ t.memRead (s.sp - 1) = hiByte (s.get16 p) ∧ t.memRead (s.sp - 2) = loByte (s.get16 p)
    ∧ (∀ a, a ≠ s.sp - 1 → a ≠ s.sp - 2 → t.memRead a = s.memRead a)
    ∧ t = { s with sp := s.sp - 2, pc := s.pc + 1, mem := t.mem }

/-- POP qq (45_load16_stack.md section 2: R245; 20_memory.md R61, R62; the spec's decisions D3, D19): the low register from SP, the
high one from SP + 1, all eight bits of F for AF; SP is higher by two; nothing else changes. -/
def Obligations.PopLoadsPair : Prop :=
  ∀ s : State,
    exec (Form.pop .bc) s = .next { s with b := s.memRead (s.sp + 1), c := s.memRead s.sp, sp := s.sp + 2, pc := s.pc + 1 }
    ∧ exec (Form.pop .de) s = .next { s with d := s.memRead (s.sp + 1), e := s.memRead s.sp, sp := s.sp + 2, pc := s.pc + 1 }
    ∧ exec (Form.pop .hl) s = .next { s with h := s.memRead (s.sp + 1), l := s.memRead s.sp, sp := s.sp + 2, pc := s.pc + 1 }
    ∧ exec (Form.pop .af) s = .next { s with a := s.memRead (s.sp + 1), f := s.memRead s.sp, sp := s.sp + 2, pc := s.pc + 1 }

/-- EX (SP),HL (45_load16_stack.md section 3: R247; the spec's decisions D3, D10, D16): L and the byte at SP, H and the byte at
SP + 1 change places; SP, every other byte of memory and everything else is as before. -/
def Obligations.ExchangeStackTop : Prop :=
  ∀ s : State, ∃ t, exec .exmSP_HL s = .next t
    ∧ (∀ a, t.memRead a = if a = s.sp + 1 then s.h else if a = s.sp then s.l else s.memRead a)
    ∧ t = { s with l := s.memRead s.sp, h := s.memRead (s.sp + 1), mem := t.mem, pc := s.pc + 1 }

/-! ## Accumulator and flag operations, 16-bit arithmetic, rotates -/

/-- EX AF,AF', EXX and DAA (45_load16_stack.md section 3: R248, R249; 46_misc_arith_rotate.md section 1: R270; the spec's decision
D11): their own effect is to record UnmodelledOpcode with the address and the byte; pc and everything else is as before. That
the entry answers a NEXT state is the model's reading (notes/assumptions/1.md). -/
def Obligations.UnmodelledOpcodesRaise : Prop :=
  ∀ s : State,
    exec .exAF_AF s = .next { s with fault := some (.unmodelledOpcode s.pc 0x08) }
    ∧ exec .exx s = .next { s with fault := some (.unmodelledOpcode s.pc 0xD9) }
    ∧ exec .daa s = .next { s with fault := some (.unmodelledOpcode s.pc 0x27) }

/-- CPL, SCF, CCF and the four rotates of A (46_misc_arith_rotate.md sections 1, 3: R271 to R273, R277 to R280; the spec's decisions
D10, D31): the new A bit by bit, C, and S, Z, PV and bits 3 and 5 as before; H and N are draws; everything else is as
before. -/
def Obligations.AccumulatorOperations : Prop :=
  ∀ s : State,
    (∃ t, exec .cpl s = .next t ∧ t.a = s.a ^^^ 0xFF ∧ t.flag .c = s.flag .c ∧ ResultFlagsKept s t ∧ UnusedKept s t
      ∧ t = { s with a := t.a, f := t.f, pc := s.pc + 1, draws := t.draws })
    ∧ (∃ t, exec .scf s = .next t ∧ t.flag .c = true ∧ ResultFlagsKept s t ∧ UnusedKept s t
      ∧ t = { s with f := t.f, pc := s.pc + 1, draws := t.draws })
    ∧ (∃ t, exec .ccf s = .next t ∧ t.flag .c = !s.flag .c ∧ ResultFlagsKept s t ∧ UnusedKept s t
      ∧ t = { s with f := t.f, pc := s.pc + 1, draws := t.draws })
    ∧ (∃ t, exec .rlca s = .next t ∧ (∀ j < 8, t.a.getLsbD j = s.a.getLsbD ((j + 7) % 8)) ∧ t.flag .c = s.a.getLsbD 7
      ∧ ResultFlagsKept s t ∧ UnusedKept s t ∧ t = { s with a := t.a, f := t.f, pc := s.pc + 1, draws := t.draws })
    ∧ (∃ t, exec .rrca s = .next t ∧ (∀ j < 8, t.a.getLsbD j = s.a.getLsbD ((j + 1) % 8)) ∧ t.flag .c = s.a.getLsbD 0
      ∧ ResultFlagsKept s t ∧ UnusedKept s t ∧ t = { s with a := t.a, f := t.f, pc := s.pc + 1, draws := t.draws })
    ∧ (∃ t, exec .rla s = .next t ∧ t.a.getLsbD 0 = s.flag .c ∧ (∀ j < 7, t.a.getLsbD (j + 1) = s.a.getLsbD j)
      ∧ t.flag .c = s.a.getLsbD 7
      ∧ ResultFlagsKept s t ∧ UnusedKept s t ∧ t = { s with a := t.a, f := t.f, pc := s.pc + 1, draws := t.draws })
    ∧ (∃ t, exec .rra s = .next t ∧ t.a.getLsbD 7 = s.flag .c ∧ (∀ j < 7, t.a.getLsbD j = s.a.getLsbD (j + 1))
      ∧ t.flag .c = s.a.getLsbD 0
      ∧ ResultFlagsKept s t ∧ UnusedKept s t ∧ t = { s with a := t.a, f := t.f, pc := s.pc + 1, draws := t.draws })

/-- ADD HL,ss (46_misc_arith_rotate.md section 2: R274; the spec's decisions D10, D31): HL is the sum modulo 2^16, C the carry out of
bit 15, written both ways; S, Z, PV and bits 3 and 5 as before; H and N are draws; everything else is as before. What the operand
ss is (10_state.md section 1: R25) stands first. -/
def Obligations.AddHLResult : Prop :=
  (∀ s : State, s.getDD .bc = s.b ++ s.c ∧ s.getDD .de = s.d ++ s.e ∧ s.getDD .hl = s.h ++ s.l ∧ s.getDD .sp = s.sp)
  ∧ ∀ (r : RegDD) (s : State), ∃ t, exec (Form.addHL r) s = .next t
    ∧ t.hl.toNat = (s.hl.toNat + (s.getDD r).toNat) % 65536
    ∧ t.flag .c = decide (65535 < s.hl.toNat + (s.getDD r).toNat)
    ∧ ResultFlagsKept s t ∧ UnusedKept s t
    ∧ t = { s with h := t.h, l := t.l, f := t.f, pc := s.pc + 1, draws := t.draws }

/-- INC ss and DEC ss (46_misc_arith_rotate.md section 2: R275, R276; the spec's decision D10): the pair or SP moves by one modulo
2^16, no flag changes, and nothing else but pc. -/
def Obligations.IncDecPairResult : Prop :=
  ∀ (r : RegDD) (s : State),
    (∃ t, exec (Form.incDD r) s = .next t ∧ t.getDD r = s.getDD r + 1 ∧ (∀ q, q ≠ r → t.getDD q = s.getDD q)
      ∧ t = { s with b := t.b, c := t.c, d := t.d, e := t.e, h := t.h, l := t.l, sp := t.sp, pc := s.pc + 1 })
    ∧ (∃ t, exec (Form.decDD r) s = .next t ∧ t.getDD r = s.getDD r - 1 ∧ (∀ q, q ≠ r → t.getDD q = s.getDD q)
      ∧ t = { s with b := t.b, c := t.c, d := t.d, e := t.e, h := t.h, l := t.l, sp := t.sp, pc := s.pc + 1 })

/-! ## Ports -/

/-- IN A,(n) (47_io.md sections 1, 2: R300, R301; 60_exceptions.md R402; the spec's decision D2): for n below 16, A holds the port's
byte, pc advances by 2, and nothing else changes; for n of 16 or more the fault is recorded and nothing else changes. -/
def Obligations.InputResult : Prop :=
  ∀ (n : Byte) (s : State),
    (∀ h : n.toNat < 16, exec (.inA_mn n) s = .next { s with a := s.ports[n.toNat], pc := s.pc + 2 })
    ∧ (16 ≤ n.toNat → exec (.inA_mn n) s = .next { s with fault := some (.portOutOfRange s.pc n) })

/-- OUT (n),A (47_io.md sections 1, 2: R300, R302; 60_exceptions.md R402; the spec's decision D2): for n below 16, port n holds A,
every other port is as before, pc advances by 2, and nothing else changes; for n of 16 or more the fault is recorded and
nothing else changes. -/
def Obligations.OutputResult : Prop :=
  ∀ (n : Byte) (s : State),
    (n.toNat < 16 → ∃ t, exec (.outmn_A n) s = .next t
      ∧ (∀ (k : Nat) (h : k < 16), t.ports[k] = if k = n.toNat then s.a else s.ports[k])
      ∧ t = { s with ports := t.ports, pc := s.pc + 2 })
    ∧ (16 ≤ n.toNat → exec (.outmn_A n) s = .next { s with fault := some (.portOutOfRange s.pc n) })

/-! ## The host between steps -/

/-- What each interaction of the host does (70_reset_and_hazards.md section 2: R457, R460; the spec's decision D29): reset, load and
step are those operations; a write of a register, a pair, F, IX, IY, SP, PC, a memory cell or a port cell makes it hold the
value and touches nothing else; and nothing but a reset clears a recorded fault (60_exceptions.md section 1: R404, decision D18;
that a host's write does not reach the fault field is the model's reading, notes/assumptions/15.md). -/
def Obligations.HostInteractions : Prop :=
  ∀ s : State,
    ((∀ p, hostAct (.reset p) s = .next (State.resetWith p)) ∧ (∀ image, hostAct (.load image) s = .next (s.loadRom image).1)
      ∧ hostAct .step s = step s)
    ∧ (∀ (r : Reg8) (v : Byte), ∃ t, hostAct (.write8 r v) s = .next t ∧ t.get8 r = v ∧ (∀ q, q ≠ r → t.get8 q = s.get8 q)
      ∧ t = { s with a := t.a, b := t.b, c := t.c, d := t.d, e := t.e, h := t.h, l := t.l })
    ∧ (∀ (p : RegQQ) (v : Word), hostAct (.write16 p v) s = .next (s.set16 p v))
    ∧ (∀ v : Byte, hostAct (.writeF v) s = .next { s with f := v })
    ∧ (∀ v : Word, hostAct (.writeReg16 .ix v) s = .next { s with ix := v }
      ∧ hostAct (.writeReg16 .iy v) s = .next { s with iy := v } ∧ hostAct (.writeReg16 .sp v) s = .next { s with sp := v }
      ∧ hostAct (.writeReg16 .pc v) s = .next { s with pc := v })
    ∧ (∀ (a : Word) (v : Byte), ∃ t, hostAct (.writeMem a v) s = .next t
      ∧ (∀ b, t.memRead b = if b = a then v else s.memRead b) ∧ t = { s with mem := t.mem })
    ∧ (∀ (i : Fin 16) (v : Byte), ∃ t, hostAct (.writePort i v) s = .next t
      ∧ (∀ (k : Nat) (h : k < 16), t.ports[k] = if k = i.val then v else s.ports[k]) ∧ t = { s with ports := t.ports })
    ∧ ∀ (act : HostAction) (t : State), (∀ p, act ≠ .reset p) → s.fault ≠ none → hostAct act s = .next t → t.fault = s.fault
end

