-- ==== Sys2Proof/Laws/Bytes.lean ====
section
/-! SUPPORT. The helpers on bytes: the signed reading of a byte and its converse (spec/00_scope.md R9, spec/30_encoding.md
R82), and a proof about every byte from one about each of the 256 numerals. -/
namespace Sys2Proof

theorem signedByte_eq_toInt (b : Byte) : signedByte b = b.toInt := by
  unfold signedByte
  rw [BitVec.toInt_eq_msb_cond, BitVec.msb_eq_getLsbD_last]
  rfl

theorem dispByte_signedByte (b : Byte) : dispByte (signedByte b) = b := by
  rw [signedByte_eq_toInt, dispByte, BitVec.ofInt_toInt]

theorem signedByte_dispByte {e : Int} (h1 : -128 ≤ e) (h2 : e ≤ 127) : signedByte (dispByte e) = e := by
  rw [signedByte_eq_toInt, dispByte, BitVec.toInt_ofInt]
  exact Int.bmod_eq_of_le (by omega) (by omega)

/-- The displacement a byte holds is one a byte can hold. -/
theorem signedByte_range (b : Byte) : -128 ≤ signedByte b ∧ signedByte b ≤ 127 := by
  rw [signedByte_eq_toInt]
  have := b.isLt
  unfold BitVec.toInt
  split <;> omega

/-- A claim about every byte, from one proof per numeral. -/
theorem byte_cases {P : Byte → Prop} (h : ∀ n < 256, P (BitVec.ofNat 8 n)) (b : Byte) : P b := by
  simpa using h b.toNat b.isLt

/-- The low byte of an exact result as a number. -/
theorem toNat_trunc8 (raw : Int) : ((trunc8 raw).toNat : Int) = raw % 256 := by
  unfold trunc8
  rw [BitVec.toNat_ofInt]
  omega

/-- The low word of an exact result as a number. -/
theorem toNat_trunc16 (raw : Int) : ((trunc16 raw).toNat : Int) = raw % 65536 := by
  unfold trunc16
  rw [BitVec.toNat_ofInt]
  omega

end Sys2Proof
end

