-- ==== Sys2Proof/Laws/State.lean ====
section
/-! SUPPORT. What each named update of the state leaves of each field: one lemma per field per update. -/
namespace Sys2Proof.Machine

variable (s : State)

/-! ### `memWrite` -/

@[simp] theorem State.memWrite_a (addr : Word) (v : Byte) : (s.memWrite addr v).a = s.a := rfl
@[simp] theorem State.memWrite_f (addr : Word) (v : Byte) : (s.memWrite addr v).f = s.f := rfl
@[simp] theorem State.memWrite_b (addr : Word) (v : Byte) : (s.memWrite addr v).b = s.b := rfl
@[simp] theorem State.memWrite_c (addr : Word) (v : Byte) : (s.memWrite addr v).c = s.c := rfl
@[simp] theorem State.memWrite_d (addr : Word) (v : Byte) : (s.memWrite addr v).d = s.d := rfl
@[simp] theorem State.memWrite_e (addr : Word) (v : Byte) : (s.memWrite addr v).e = s.e := rfl
@[simp] theorem State.memWrite_h (addr : Word) (v : Byte) : (s.memWrite addr v).h = s.h := rfl
@[simp] theorem State.memWrite_l (addr : Word) (v : Byte) : (s.memWrite addr v).l = s.l := rfl
@[simp] theorem State.memWrite_ix (addr : Word) (v : Byte) : (s.memWrite addr v).ix = s.ix := rfl
@[simp] theorem State.memWrite_iy (addr : Word) (v : Byte) : (s.memWrite addr v).iy = s.iy := rfl
@[simp] theorem State.memWrite_sp (addr : Word) (v : Byte) : (s.memWrite addr v).sp = s.sp := rfl
@[simp] theorem State.memWrite_pc (addr : Word) (v : Byte) : (s.memWrite addr v).pc = s.pc := rfl
@[simp] theorem State.memWrite_ports (addr : Word) (v : Byte) : (s.memWrite addr v).ports = s.ports := rfl
@[simp] theorem State.memWrite_fault (addr : Word) (v : Byte) : (s.memWrite addr v).fault = s.fault := rfl
@[simp] theorem State.memWrite_draws (addr : Word) (v : Byte) : (s.memWrite addr v).draws = s.draws := rfl
@[simp] theorem State.memWrite_mem (addr : Word) (v : Byte) : (s.memWrite addr v).mem = Memory.write s.mem addr.toNat v := rfl

/-! ### `memWrite16` -/

@[simp] theorem State.memWrite16_a (addr v : Word) : (s.memWrite16 addr v).a = s.a := rfl
@[simp] theorem State.memWrite16_f (addr v : Word) : (s.memWrite16 addr v).f = s.f := rfl
@[simp] theorem State.memWrite16_b (addr v : Word) : (s.memWrite16 addr v).b = s.b := rfl
@[simp] theorem State.memWrite16_c (addr v : Word) : (s.memWrite16 addr v).c = s.c := rfl
@[simp] theorem State.memWrite16_d (addr v : Word) : (s.memWrite16 addr v).d = s.d := rfl
@[simp] theorem State.memWrite16_e (addr v : Word) : (s.memWrite16 addr v).e = s.e := rfl
@[simp] theorem State.memWrite16_h (addr v : Word) : (s.memWrite16 addr v).h = s.h := rfl
@[simp] theorem State.memWrite16_l (addr v : Word) : (s.memWrite16 addr v).l = s.l := rfl
@[simp] theorem State.memWrite16_ix (addr v : Word) : (s.memWrite16 addr v).ix = s.ix := rfl
@[simp] theorem State.memWrite16_iy (addr v : Word) : (s.memWrite16 addr v).iy = s.iy := rfl
@[simp] theorem State.memWrite16_sp (addr v : Word) : (s.memWrite16 addr v).sp = s.sp := rfl
@[simp] theorem State.memWrite16_pc (addr v : Word) : (s.memWrite16 addr v).pc = s.pc := rfl
@[simp] theorem State.memWrite16_ports (addr v : Word) : (s.memWrite16 addr v).ports = s.ports := rfl
@[simp] theorem State.memWrite16_fault (addr v : Word) : (s.memWrite16 addr v).fault = s.fault := rfl
@[simp] theorem State.memWrite16_draws (addr v : Word) : (s.memWrite16 addr v).draws = s.draws := rfl

/-! ### `push8` -/

@[simp] theorem State.push8_a (v : Byte) : (s.push8 v).a = s.a := rfl
@[simp] theorem State.push8_f (v : Byte) : (s.push8 v).f = s.f := rfl
@[simp] theorem State.push8_b (v : Byte) : (s.push8 v).b = s.b := rfl
@[simp] theorem State.push8_c (v : Byte) : (s.push8 v).c = s.c := rfl
@[simp] theorem State.push8_d (v : Byte) : (s.push8 v).d = s.d := rfl
@[simp] theorem State.push8_e (v : Byte) : (s.push8 v).e = s.e := rfl
@[simp] theorem State.push8_h (v : Byte) : (s.push8 v).h = s.h := rfl
@[simp] theorem State.push8_l (v : Byte) : (s.push8 v).l = s.l := rfl
@[simp] theorem State.push8_ix (v : Byte) : (s.push8 v).ix = s.ix := rfl
@[simp] theorem State.push8_iy (v : Byte) : (s.push8 v).iy = s.iy := rfl
@[simp] theorem State.push8_pc (v : Byte) : (s.push8 v).pc = s.pc := rfl
@[simp] theorem State.push8_ports (v : Byte) : (s.push8 v).ports = s.ports := rfl
@[simp] theorem State.push8_fault (v : Byte) : (s.push8 v).fault = s.fault := rfl
@[simp] theorem State.push8_draws (v : Byte) : (s.push8 v).draws = s.draws := rfl
@[simp] theorem State.push8_sp (v : Byte) : (s.push8 v).sp = s.sp - 1 := rfl

/-! ### `push16` -/

@[simp] theorem State.push16_a (v : Word) : (s.push16 v).a = s.a := rfl
@[simp] theorem State.push16_f (v : Word) : (s.push16 v).f = s.f := rfl
@[simp] theorem State.push16_b (v : Word) : (s.push16 v).b = s.b := rfl
@[simp] theorem State.push16_c (v : Word) : (s.push16 v).c = s.c := rfl
@[simp] theorem State.push16_d (v : Word) : (s.push16 v).d = s.d := rfl
@[simp] theorem State.push16_e (v : Word) : (s.push16 v).e = s.e := rfl
@[simp] theorem State.push16_h (v : Word) : (s.push16 v).h = s.h := rfl
@[simp] theorem State.push16_l (v : Word) : (s.push16 v).l = s.l := rfl
@[simp] theorem State.push16_ix (v : Word) : (s.push16 v).ix = s.ix := rfl
@[simp] theorem State.push16_iy (v : Word) : (s.push16 v).iy = s.iy := rfl
@[simp] theorem State.push16_pc (v : Word) : (s.push16 v).pc = s.pc := rfl
@[simp] theorem State.push16_ports (v : Word) : (s.push16 v).ports = s.ports := rfl
@[simp] theorem State.push16_fault (v : Word) : (s.push16 v).fault = s.fault := rfl
@[simp] theorem State.push16_draws (v : Word) : (s.push16 v).draws = s.draws := rfl

/-! ### `pop16` -/

@[simp] theorem State.pop16_a : (s.pop16.2).a = s.a := rfl
@[simp] theorem State.pop16_f : (s.pop16.2).f = s.f := rfl
@[simp] theorem State.pop16_b : (s.pop16.2).b = s.b := rfl
@[simp] theorem State.pop16_c : (s.pop16.2).c = s.c := rfl
@[simp] theorem State.pop16_d : (s.pop16.2).d = s.d := rfl
@[simp] theorem State.pop16_e : (s.pop16.2).e = s.e := rfl
@[simp] theorem State.pop16_h : (s.pop16.2).h = s.h := rfl
@[simp] theorem State.pop16_l : (s.pop16.2).l = s.l := rfl
@[simp] theorem State.pop16_ix : (s.pop16.2).ix = s.ix := rfl
@[simp] theorem State.pop16_iy : (s.pop16.2).iy = s.iy := rfl
@[simp] theorem State.pop16_pc : (s.pop16.2).pc = s.pc := rfl
@[simp] theorem State.pop16_mem : (s.pop16.2).mem = s.mem := rfl
@[simp] theorem State.pop16_ports : (s.pop16.2).ports = s.ports := rfl
@[simp] theorem State.pop16_fault : (s.pop16.2).fault = s.fault := rfl
@[simp] theorem State.pop16_draws : (s.pop16.2).draws = s.draws := rfl
@[simp] theorem State.pop16_sp : (s.pop16.2).sp = s.sp + 2 := rfl

/-! ### `advance` -/

@[simp] theorem State.advance_a (k : Word) : (s.advance k).a = s.a := rfl
@[simp] theorem State.advance_f (k : Word) : (s.advance k).f = s.f := rfl
@[simp] theorem State.advance_b (k : Word) : (s.advance k).b = s.b := rfl
@[simp] theorem State.advance_c (k : Word) : (s.advance k).c = s.c := rfl
@[simp] theorem State.advance_d (k : Word) : (s.advance k).d = s.d := rfl
@[simp] theorem State.advance_e (k : Word) : (s.advance k).e = s.e := rfl
@[simp] theorem State.advance_h (k : Word) : (s.advance k).h = s.h := rfl
@[simp] theorem State.advance_l (k : Word) : (s.advance k).l = s.l := rfl
@[simp] theorem State.advance_ix (k : Word) : (s.advance k).ix = s.ix := rfl
@[simp] theorem State.advance_iy (k : Word) : (s.advance k).iy = s.iy := rfl
@[simp] theorem State.advance_sp (k : Word) : (s.advance k).sp = s.sp := rfl
@[simp] theorem State.advance_mem (k : Word) : (s.advance k).mem = s.mem := rfl
@[simp] theorem State.advance_ports (k : Word) : (s.advance k).ports = s.ports := rfl
@[simp] theorem State.advance_fault (k : Word) : (s.advance k).fault = s.fault := rfl
@[simp] theorem State.advance_draws (k : Word) : (s.advance k).draws = s.draws := rfl
@[simp] theorem State.advance_pc (k : Word) : (s.advance k).pc = s.pc + k := rfl

/-! ### `goto` -/

@[simp] theorem State.goto_a (target : Word) : (s.goto target).a = s.a := rfl
@[simp] theorem State.goto_f (target : Word) : (s.goto target).f = s.f := rfl
@[simp] theorem State.goto_b (target : Word) : (s.goto target).b = s.b := rfl
@[simp] theorem State.goto_c (target : Word) : (s.goto target).c = s.c := rfl
@[simp] theorem State.goto_d (target : Word) : (s.goto target).d = s.d := rfl
@[simp] theorem State.goto_e (target : Word) : (s.goto target).e = s.e := rfl
@[simp] theorem State.goto_h (target : Word) : (s.goto target).h = s.h := rfl
@[simp] theorem State.goto_l (target : Word) : (s.goto target).l = s.l := rfl
@[simp] theorem State.goto_ix (target : Word) : (s.goto target).ix = s.ix := rfl
@[simp] theorem State.goto_iy (target : Word) : (s.goto target).iy = s.iy := rfl
@[simp] theorem State.goto_sp (target : Word) : (s.goto target).sp = s.sp := rfl
@[simp] theorem State.goto_mem (target : Word) : (s.goto target).mem = s.mem := rfl
@[simp] theorem State.goto_ports (target : Word) : (s.goto target).ports = s.ports := rfl
@[simp] theorem State.goto_fault (target : Word) : (s.goto target).fault = s.fault := rfl
@[simp] theorem State.goto_draws (target : Word) : (s.goto target).draws = s.draws := rfl
@[simp] theorem State.goto_pc (target : Word) : (s.goto target).pc = target := rfl

/-! ### `draw` -/

@[simp] theorem State.draw_a : (s.draw.2).a = s.a := rfl
@[simp] theorem State.draw_f : (s.draw.2).f = s.f := rfl
@[simp] theorem State.draw_b : (s.draw.2).b = s.b := rfl
@[simp] theorem State.draw_c : (s.draw.2).c = s.c := rfl
@[simp] theorem State.draw_d : (s.draw.2).d = s.d := rfl
@[simp] theorem State.draw_e : (s.draw.2).e = s.e := rfl
@[simp] theorem State.draw_h : (s.draw.2).h = s.h := rfl
@[simp] theorem State.draw_l : (s.draw.2).l = s.l := rfl
@[simp] theorem State.draw_ix : (s.draw.2).ix = s.ix := rfl
@[simp] theorem State.draw_iy : (s.draw.2).iy = s.iy := rfl
@[simp] theorem State.draw_sp : (s.draw.2).sp = s.sp := rfl
@[simp] theorem State.draw_pc : (s.draw.2).pc = s.pc := rfl
@[simp] theorem State.draw_mem : (s.draw.2).mem = s.mem := rfl
@[simp] theorem State.draw_ports : (s.draw.2).ports = s.ports := rfl
@[simp] theorem State.draw_fault : (s.draw.2).fault = s.fault := rfl
@[simp] theorem State.draw_draws : (s.draw.2).draws = s.draws + 1 := rfl

/-! ### `raise` -/

@[simp] theorem State.raise_a (x : Fault) : (s.raise x).a = s.a := rfl
@[simp] theorem State.raise_f (x : Fault) : (s.raise x).f = s.f := rfl
@[simp] theorem State.raise_b (x : Fault) : (s.raise x).b = s.b := rfl
@[simp] theorem State.raise_c (x : Fault) : (s.raise x).c = s.c := rfl
@[simp] theorem State.raise_d (x : Fault) : (s.raise x).d = s.d := rfl
@[simp] theorem State.raise_e (x : Fault) : (s.raise x).e = s.e := rfl
@[simp] theorem State.raise_h (x : Fault) : (s.raise x).h = s.h := rfl
@[simp] theorem State.raise_l (x : Fault) : (s.raise x).l = s.l := rfl
@[simp] theorem State.raise_ix (x : Fault) : (s.raise x).ix = s.ix := rfl
@[simp] theorem State.raise_iy (x : Fault) : (s.raise x).iy = s.iy := rfl
@[simp] theorem State.raise_sp (x : Fault) : (s.raise x).sp = s.sp := rfl
@[simp] theorem State.raise_pc (x : Fault) : (s.raise x).pc = s.pc := rfl
@[simp] theorem State.raise_mem (x : Fault) : (s.raise x).mem = s.mem := rfl
@[simp] theorem State.raise_ports (x : Fault) : (s.raise x).ports = s.ports := rfl
@[simp] theorem State.raise_draws (x : Fault) : (s.raise x).draws = s.draws := rfl
@[simp] theorem State.raise_fault (x : Fault) : (s.raise x).fault = some x := rfl

/-! ### `putFlag` -/

@[simp] theorem State.putFlag_a (g : Flag) (v : Bool) : (s.putFlag g v).a = s.a := rfl
@[simp] theorem State.putFlag_b (g : Flag) (v : Bool) : (s.putFlag g v).b = s.b := rfl
@[simp] theorem State.putFlag_c (g : Flag) (v : Bool) : (s.putFlag g v).c = s.c := rfl
@[simp] theorem State.putFlag_d (g : Flag) (v : Bool) : (s.putFlag g v).d = s.d := rfl
@[simp] theorem State.putFlag_e (g : Flag) (v : Bool) : (s.putFlag g v).e = s.e := rfl
@[simp] theorem State.putFlag_h (g : Flag) (v : Bool) : (s.putFlag g v).h = s.h := rfl
@[simp] theorem State.putFlag_l (g : Flag) (v : Bool) : (s.putFlag g v).l = s.l := rfl
@[simp] theorem State.putFlag_ix (g : Flag) (v : Bool) : (s.putFlag g v).ix = s.ix := rfl
@[simp] theorem State.putFlag_iy (g : Flag) (v : Bool) : (s.putFlag g v).iy = s.iy := rfl
@[simp] theorem State.putFlag_sp (g : Flag) (v : Bool) : (s.putFlag g v).sp = s.sp := rfl
@[simp] theorem State.putFlag_pc (g : Flag) (v : Bool) : (s.putFlag g v).pc = s.pc := rfl
@[simp] theorem State.putFlag_mem (g : Flag) (v : Bool) : (s.putFlag g v).mem = s.mem := rfl
@[simp] theorem State.putFlag_ports (g : Flag) (v : Bool) : (s.putFlag g v).ports = s.ports := rfl
@[simp] theorem State.putFlag_fault (g : Flag) (v : Bool) : (s.putFlag g v).fault = s.fault := rfl
@[simp] theorem State.putFlag_draws (g : Flag) (v : Bool) : (s.putFlag g v).draws = s.draws := rfl

/-! ### `setFlag` -/

@[simp] theorem State.setFlag_a (g : Flag) : (s.setFlag g).a = s.a := rfl
@[simp] theorem State.setFlag_b (g : Flag) : (s.setFlag g).b = s.b := rfl
@[simp] theorem State.setFlag_c (g : Flag) : (s.setFlag g).c = s.c := rfl
@[simp] theorem State.setFlag_d (g : Flag) : (s.setFlag g).d = s.d := rfl
@[simp] theorem State.setFlag_e (g : Flag) : (s.setFlag g).e = s.e := rfl
@[simp] theorem State.setFlag_h (g : Flag) : (s.setFlag g).h = s.h := rfl
@[simp] theorem State.setFlag_l (g : Flag) : (s.setFlag g).l = s.l := rfl
@[simp] theorem State.setFlag_ix (g : Flag) : (s.setFlag g).ix = s.ix := rfl
@[simp] theorem State.setFlag_iy (g : Flag) : (s.setFlag g).iy = s.iy := rfl
@[simp] theorem State.setFlag_sp (g : Flag) : (s.setFlag g).sp = s.sp := rfl
@[simp] theorem State.setFlag_pc (g : Flag) : (s.setFlag g).pc = s.pc := rfl
@[simp] theorem State.setFlag_mem (g : Flag) : (s.setFlag g).mem = s.mem := rfl
@[simp] theorem State.setFlag_ports (g : Flag) : (s.setFlag g).ports = s.ports := rfl
@[simp] theorem State.setFlag_fault (g : Flag) : (s.setFlag g).fault = s.fault := rfl
@[simp] theorem State.setFlag_draws (g : Flag) : (s.setFlag g).draws = s.draws := rfl

/-! ### `resetFlag` -/

@[simp] theorem State.resetFlag_a (g : Flag) : (s.resetFlag g).a = s.a := rfl
@[simp] theorem State.resetFlag_b (g : Flag) : (s.resetFlag g).b = s.b := rfl
@[simp] theorem State.resetFlag_c (g : Flag) : (s.resetFlag g).c = s.c := rfl
@[simp] theorem State.resetFlag_d (g : Flag) : (s.resetFlag g).d = s.d := rfl
@[simp] theorem State.resetFlag_e (g : Flag) : (s.resetFlag g).e = s.e := rfl
@[simp] theorem State.resetFlag_h (g : Flag) : (s.resetFlag g).h = s.h := rfl
@[simp] theorem State.resetFlag_l (g : Flag) : (s.resetFlag g).l = s.l := rfl
@[simp] theorem State.resetFlag_ix (g : Flag) : (s.resetFlag g).ix = s.ix := rfl
@[simp] theorem State.resetFlag_iy (g : Flag) : (s.resetFlag g).iy = s.iy := rfl
@[simp] theorem State.resetFlag_sp (g : Flag) : (s.resetFlag g).sp = s.sp := rfl
@[simp] theorem State.resetFlag_pc (g : Flag) : (s.resetFlag g).pc = s.pc := rfl
@[simp] theorem State.resetFlag_mem (g : Flag) : (s.resetFlag g).mem = s.mem := rfl
@[simp] theorem State.resetFlag_ports (g : Flag) : (s.resetFlag g).ports = s.ports := rfl
@[simp] theorem State.resetFlag_fault (g : Flag) : (s.resetFlag g).fault = s.fault := rfl
@[simp] theorem State.resetFlag_draws (g : Flag) : (s.resetFlag g).draws = s.draws := rfl

/-! ### `drawFlag` -/

@[simp] theorem State.drawFlag_a (g : Flag) : (s.drawFlag g).a = s.a := rfl
@[simp] theorem State.drawFlag_b (g : Flag) : (s.drawFlag g).b = s.b := rfl
@[simp] theorem State.drawFlag_c (g : Flag) : (s.drawFlag g).c = s.c := rfl
@[simp] theorem State.drawFlag_d (g : Flag) : (s.drawFlag g).d = s.d := rfl
@[simp] theorem State.drawFlag_e (g : Flag) : (s.drawFlag g).e = s.e := rfl
@[simp] theorem State.drawFlag_h (g : Flag) : (s.drawFlag g).h = s.h := rfl
@[simp] theorem State.drawFlag_l (g : Flag) : (s.drawFlag g).l = s.l := rfl
@[simp] theorem State.drawFlag_ix (g : Flag) : (s.drawFlag g).ix = s.ix := rfl
@[simp] theorem State.drawFlag_iy (g : Flag) : (s.drawFlag g).iy = s.iy := rfl
@[simp] theorem State.drawFlag_sp (g : Flag) : (s.drawFlag g).sp = s.sp := rfl
@[simp] theorem State.drawFlag_pc (g : Flag) : (s.drawFlag g).pc = s.pc := rfl
@[simp] theorem State.drawFlag_mem (g : Flag) : (s.drawFlag g).mem = s.mem := rfl
@[simp] theorem State.drawFlag_ports (g : Flag) : (s.drawFlag g).ports = s.ports := rfl
@[simp] theorem State.drawFlag_fault (g : Flag) : (s.drawFlag g).fault = s.fault := rfl

/-! ### `updateS` -/

@[simp] theorem State.updateS_a (r8 : Byte) : (s.updateS r8).a = s.a := rfl
@[simp] theorem State.updateS_b (r8 : Byte) : (s.updateS r8).b = s.b := rfl
@[simp] theorem State.updateS_c (r8 : Byte) : (s.updateS r8).c = s.c := rfl
@[simp] theorem State.updateS_d (r8 : Byte) : (s.updateS r8).d = s.d := rfl
@[simp] theorem State.updateS_e (r8 : Byte) : (s.updateS r8).e = s.e := rfl
@[simp] theorem State.updateS_h (r8 : Byte) : (s.updateS r8).h = s.h := rfl
@[simp] theorem State.updateS_l (r8 : Byte) : (s.updateS r8).l = s.l := rfl
@[simp] theorem State.updateS_ix (r8 : Byte) : (s.updateS r8).ix = s.ix := rfl
@[simp] theorem State.updateS_iy (r8 : Byte) : (s.updateS r8).iy = s.iy := rfl
@[simp] theorem State.updateS_sp (r8 : Byte) : (s.updateS r8).sp = s.sp := rfl
@[simp] theorem State.updateS_pc (r8 : Byte) : (s.updateS r8).pc = s.pc := rfl
@[simp] theorem State.updateS_mem (r8 : Byte) : (s.updateS r8).mem = s.mem := rfl
@[simp] theorem State.updateS_ports (r8 : Byte) : (s.updateS r8).ports = s.ports := rfl
@[simp] theorem State.updateS_fault (r8 : Byte) : (s.updateS r8).fault = s.fault := rfl
@[simp] theorem State.updateS_draws (r8 : Byte) : (s.updateS r8).draws = s.draws := rfl

/-! ### `updateZ` -/

@[simp] theorem State.updateZ_a (r8 : Byte) : (s.updateZ r8).a = s.a := rfl
@[simp] theorem State.updateZ_b (r8 : Byte) : (s.updateZ r8).b = s.b := rfl
@[simp] theorem State.updateZ_c (r8 : Byte) : (s.updateZ r8).c = s.c := rfl
@[simp] theorem State.updateZ_d (r8 : Byte) : (s.updateZ r8).d = s.d := rfl
@[simp] theorem State.updateZ_e (r8 : Byte) : (s.updateZ r8).e = s.e := rfl
@[simp] theorem State.updateZ_h (r8 : Byte) : (s.updateZ r8).h = s.h := rfl
@[simp] theorem State.updateZ_l (r8 : Byte) : (s.updateZ r8).l = s.l := rfl
@[simp] theorem State.updateZ_ix (r8 : Byte) : (s.updateZ r8).ix = s.ix := rfl
@[simp] theorem State.updateZ_iy (r8 : Byte) : (s.updateZ r8).iy = s.iy := rfl
@[simp] theorem State.updateZ_sp (r8 : Byte) : (s.updateZ r8).sp = s.sp := rfl
@[simp] theorem State.updateZ_pc (r8 : Byte) : (s.updateZ r8).pc = s.pc := rfl
@[simp] theorem State.updateZ_mem (r8 : Byte) : (s.updateZ r8).mem = s.mem := rfl
@[simp] theorem State.updateZ_ports (r8 : Byte) : (s.updateZ r8).ports = s.ports := rfl
@[simp] theorem State.updateZ_fault (r8 : Byte) : (s.updateZ r8).fault = s.fault := rfl
@[simp] theorem State.updateZ_draws (r8 : Byte) : (s.updateZ r8).draws = s.draws := rfl

/-! ### `updatePV` -/

@[simp] theorem State.updatePV_a (r8 : Byte) : (s.updatePV r8).a = s.a := rfl
@[simp] theorem State.updatePV_b (r8 : Byte) : (s.updatePV r8).b = s.b := rfl
@[simp] theorem State.updatePV_c (r8 : Byte) : (s.updatePV r8).c = s.c := rfl
@[simp] theorem State.updatePV_d (r8 : Byte) : (s.updatePV r8).d = s.d := rfl
@[simp] theorem State.updatePV_e (r8 : Byte) : (s.updatePV r8).e = s.e := rfl
@[simp] theorem State.updatePV_h (r8 : Byte) : (s.updatePV r8).h = s.h := rfl
@[simp] theorem State.updatePV_l (r8 : Byte) : (s.updatePV r8).l = s.l := rfl
@[simp] theorem State.updatePV_ix (r8 : Byte) : (s.updatePV r8).ix = s.ix := rfl
@[simp] theorem State.updatePV_iy (r8 : Byte) : (s.updatePV r8).iy = s.iy := rfl
@[simp] theorem State.updatePV_sp (r8 : Byte) : (s.updatePV r8).sp = s.sp := rfl
@[simp] theorem State.updatePV_pc (r8 : Byte) : (s.updatePV r8).pc = s.pc := rfl
@[simp] theorem State.updatePV_mem (r8 : Byte) : (s.updatePV r8).mem = s.mem := rfl
@[simp] theorem State.updatePV_ports (r8 : Byte) : (s.updatePV r8).ports = s.ports := rfl
@[simp] theorem State.updatePV_fault (r8 : Byte) : (s.updatePV r8).fault = s.fault := rfl
@[simp] theorem State.updatePV_draws (r8 : Byte) : (s.updatePV r8).draws = s.draws := rfl

/-! ### `updateC` -/

@[simp] theorem State.updateC_a (raw : Int) : (s.updateC raw).a = s.a := by unfold State.updateC; split <;> rfl
@[simp] theorem State.updateC_b (raw : Int) : (s.updateC raw).b = s.b := by unfold State.updateC; split <;> rfl
@[simp] theorem State.updateC_c (raw : Int) : (s.updateC raw).c = s.c := by unfold State.updateC; split <;> rfl
@[simp] theorem State.updateC_d (raw : Int) : (s.updateC raw).d = s.d := by unfold State.updateC; split <;> rfl
@[simp] theorem State.updateC_e (raw : Int) : (s.updateC raw).e = s.e := by unfold State.updateC; split <;> rfl
@[simp] theorem State.updateC_h (raw : Int) : (s.updateC raw).h = s.h := by unfold State.updateC; split <;> rfl
@[simp] theorem State.updateC_l (raw : Int) : (s.updateC raw).l = s.l := by unfold State.updateC; split <;> rfl
@[simp] theorem State.updateC_ix (raw : Int) : (s.updateC raw).ix = s.ix := by unfold State.updateC; split <;> rfl
@[simp] theorem State.updateC_iy (raw : Int) : (s.updateC raw).iy = s.iy := by unfold State.updateC; split <;> rfl
@[simp] theorem State.updateC_sp (raw : Int) : (s.updateC raw).sp = s.sp := by unfold State.updateC; split <;> rfl
@[simp] theorem State.updateC_pc (raw : Int) : (s.updateC raw).pc = s.pc := by unfold State.updateC; split <;> rfl
@[simp] theorem State.updateC_mem (raw : Int) : (s.updateC raw).mem = s.mem := by unfold State.updateC; split <;> rfl
@[simp] theorem State.updateC_ports (raw : Int) : (s.updateC raw).ports = s.ports := by unfold State.updateC; split <;> rfl
@[simp] theorem State.updateC_fault (raw : Int) : (s.updateC raw).fault = s.fault := by unfold State.updateC; split <;> rfl
@[simp] theorem State.updateC_draws (raw : Int) : (s.updateC raw).draws = s.draws := by unfold State.updateC; split <;> rfl

/-! ### `updateH` -/

@[simp] theorem State.updateH_a : (s.updateH).a = s.a := rfl
@[simp] theorem State.updateH_b : (s.updateH).b = s.b := rfl
@[simp] theorem State.updateH_c : (s.updateH).c = s.c := rfl
@[simp] theorem State.updateH_d : (s.updateH).d = s.d := rfl
@[simp] theorem State.updateH_e : (s.updateH).e = s.e := rfl
@[simp] theorem State.updateH_h : (s.updateH).h = s.h := rfl
@[simp] theorem State.updateH_l : (s.updateH).l = s.l := rfl
@[simp] theorem State.updateH_ix : (s.updateH).ix = s.ix := rfl
@[simp] theorem State.updateH_iy : (s.updateH).iy = s.iy := rfl
@[simp] theorem State.updateH_sp : (s.updateH).sp = s.sp := rfl
@[simp] theorem State.updateH_pc : (s.updateH).pc = s.pc := rfl
@[simp] theorem State.updateH_mem : (s.updateH).mem = s.mem := rfl
@[simp] theorem State.updateH_ports : (s.updateH).ports = s.ports := rfl
@[simp] theorem State.updateH_fault : (s.updateH).fault = s.fault := rfl

/-! ### `arithFlags` -/

@[simp] theorem State.arithFlags_a (r8 : Byte) (raw : Int) (sub : Bool) : (s.arithFlags r8 raw sub).a = s.a := by cases sub <;> simp [State.arithFlags]
@[simp] theorem State.arithFlags_b (r8 : Byte) (raw : Int) (sub : Bool) : (s.arithFlags r8 raw sub).b = s.b := by cases sub <;> simp [State.arithFlags]
@[simp] theorem State.arithFlags_c (r8 : Byte) (raw : Int) (sub : Bool) : (s.arithFlags r8 raw sub).c = s.c := by cases sub <;> simp [State.arithFlags]
@[simp] theorem State.arithFlags_d (r8 : Byte) (raw : Int) (sub : Bool) : (s.arithFlags r8 raw sub).d = s.d := by cases sub <;> simp [State.arithFlags]
@[simp] theorem State.arithFlags_e (r8 : Byte) (raw : Int) (sub : Bool) : (s.arithFlags r8 raw sub).e = s.e := by cases sub <;> simp [State.arithFlags]
@[simp] theorem State.arithFlags_h (r8 : Byte) (raw : Int) (sub : Bool) : (s.arithFlags r8 raw sub).h = s.h := by cases sub <;> simp [State.arithFlags]
@[simp] theorem State.arithFlags_l (r8 : Byte) (raw : Int) (sub : Bool) : (s.arithFlags r8 raw sub).l = s.l := by cases sub <;> simp [State.arithFlags]
@[simp] theorem State.arithFlags_ix (r8 : Byte) (raw : Int) (sub : Bool) : (s.arithFlags r8 raw sub).ix = s.ix := by cases sub <;> simp [State.arithFlags]
@[simp] theorem State.arithFlags_iy (r8 : Byte) (raw : Int) (sub : Bool) : (s.arithFlags r8 raw sub).iy = s.iy := by cases sub <;> simp [State.arithFlags]
@[simp] theorem State.arithFlags_sp (r8 : Byte) (raw : Int) (sub : Bool) : (s.arithFlags r8 raw sub).sp = s.sp := by cases sub <;> simp [State.arithFlags]
@[simp] theorem State.arithFlags_pc (r8 : Byte) (raw : Int) (sub : Bool) : (s.arithFlags r8 raw sub).pc = s.pc := by cases sub <;> simp [State.arithFlags]
@[simp] theorem State.arithFlags_mem (r8 : Byte) (raw : Int) (sub : Bool) : (s.arithFlags r8 raw sub).mem = s.mem := by cases sub <;> simp [State.arithFlags]
@[simp] theorem State.arithFlags_ports (r8 : Byte) (raw : Int) (sub : Bool) : (s.arithFlags r8 raw sub).ports = s.ports := by cases sub <;> simp [State.arithFlags]
@[simp] theorem State.arithFlags_fault (r8 : Byte) (raw : Int) (sub : Bool) : (s.arithFlags r8 raw sub).fault = s.fault := by cases sub <;> simp [State.arithFlags]

/-! ### `logicFlags` -/

@[simp] theorem State.logicFlags_a (r8 : Byte) : (s.logicFlags r8).a = s.a := rfl
@[simp] theorem State.logicFlags_b (r8 : Byte) : (s.logicFlags r8).b = s.b := rfl
@[simp] theorem State.logicFlags_c (r8 : Byte) : (s.logicFlags r8).c = s.c := rfl
@[simp] theorem State.logicFlags_d (r8 : Byte) : (s.logicFlags r8).d = s.d := rfl
@[simp] theorem State.logicFlags_e (r8 : Byte) : (s.logicFlags r8).e = s.e := rfl
@[simp] theorem State.logicFlags_h (r8 : Byte) : (s.logicFlags r8).h = s.h := rfl
@[simp] theorem State.logicFlags_l (r8 : Byte) : (s.logicFlags r8).l = s.l := rfl
@[simp] theorem State.logicFlags_ix (r8 : Byte) : (s.logicFlags r8).ix = s.ix := rfl
@[simp] theorem State.logicFlags_iy (r8 : Byte) : (s.logicFlags r8).iy = s.iy := rfl
@[simp] theorem State.logicFlags_sp (r8 : Byte) : (s.logicFlags r8).sp = s.sp := rfl
@[simp] theorem State.logicFlags_pc (r8 : Byte) : (s.logicFlags r8).pc = s.pc := rfl
@[simp] theorem State.logicFlags_mem (r8 : Byte) : (s.logicFlags r8).mem = s.mem := rfl
@[simp] theorem State.logicFlags_ports (r8 : Byte) : (s.logicFlags r8).ports = s.ports := rfl
@[simp] theorem State.logicFlags_fault (r8 : Byte) : (s.logicFlags r8).fault = s.fault := rfl

/-! ### `drawHN` -/

@[simp] theorem State.drawHN_a : (s.drawHN).a = s.a := rfl
@[simp] theorem State.drawHN_b : (s.drawHN).b = s.b := rfl
@[simp] theorem State.drawHN_c : (s.drawHN).c = s.c := rfl
@[simp] theorem State.drawHN_d : (s.drawHN).d = s.d := rfl
@[simp] theorem State.drawHN_e : (s.drawHN).e = s.e := rfl
@[simp] theorem State.drawHN_h : (s.drawHN).h = s.h := rfl
@[simp] theorem State.drawHN_l : (s.drawHN).l = s.l := rfl
@[simp] theorem State.drawHN_ix : (s.drawHN).ix = s.ix := rfl
@[simp] theorem State.drawHN_iy : (s.drawHN).iy = s.iy := rfl
@[simp] theorem State.drawHN_sp : (s.drawHN).sp = s.sp := rfl
@[simp] theorem State.drawHN_pc : (s.drawHN).pc = s.pc := rfl
@[simp] theorem State.drawHN_mem : (s.drawHN).mem = s.mem := rfl
@[simp] theorem State.drawHN_ports : (s.drawHN).ports = s.ports := rfl
@[simp] theorem State.drawHN_fault : (s.drawHN).fault = s.fault := rfl

/-! ### `carryFlags` -/

@[simp] theorem State.carryFlags_a (v : Bool) : (s.carryFlags v).a = s.a := rfl
@[simp] theorem State.carryFlags_b (v : Bool) : (s.carryFlags v).b = s.b := rfl
@[simp] theorem State.carryFlags_c (v : Bool) : (s.carryFlags v).c = s.c := rfl
@[simp] theorem State.carryFlags_d (v : Bool) : (s.carryFlags v).d = s.d := rfl
@[simp] theorem State.carryFlags_e (v : Bool) : (s.carryFlags v).e = s.e := rfl
@[simp] theorem State.carryFlags_h (v : Bool) : (s.carryFlags v).h = s.h := rfl
@[simp] theorem State.carryFlags_l (v : Bool) : (s.carryFlags v).l = s.l := rfl
@[simp] theorem State.carryFlags_ix (v : Bool) : (s.carryFlags v).ix = s.ix := rfl
@[simp] theorem State.carryFlags_iy (v : Bool) : (s.carryFlags v).iy = s.iy := rfl
@[simp] theorem State.carryFlags_sp (v : Bool) : (s.carryFlags v).sp = s.sp := rfl
@[simp] theorem State.carryFlags_pc (v : Bool) : (s.carryFlags v).pc = s.pc := rfl
@[simp] theorem State.carryFlags_mem (v : Bool) : (s.carryFlags v).mem = s.mem := rfl
@[simp] theorem State.carryFlags_ports (v : Bool) : (s.carryFlags v).ports = s.ports := rfl
@[simp] theorem State.carryFlags_fault (v : Bool) : (s.carryFlags v).fault = s.fault := rfl

/-! ### `set8` -/

@[simp] theorem State.set8_f (r : Reg8) (v : Byte) : (s.set8 r v).f = s.f := by cases r <;> rfl
@[simp] theorem State.set8_ix (r : Reg8) (v : Byte) : (s.set8 r v).ix = s.ix := by cases r <;> rfl
@[simp] theorem State.set8_iy (r : Reg8) (v : Byte) : (s.set8 r v).iy = s.iy := by cases r <;> rfl
@[simp] theorem State.set8_sp (r : Reg8) (v : Byte) : (s.set8 r v).sp = s.sp := by cases r <;> rfl
@[simp] theorem State.set8_pc (r : Reg8) (v : Byte) : (s.set8 r v).pc = s.pc := by cases r <;> rfl
@[simp] theorem State.set8_mem (r : Reg8) (v : Byte) : (s.set8 r v).mem = s.mem := by cases r <;> rfl
@[simp] theorem State.set8_ports (r : Reg8) (v : Byte) : (s.set8 r v).ports = s.ports := by cases r <;> rfl
@[simp] theorem State.set8_fault (r : Reg8) (v : Byte) : (s.set8 r v).fault = s.fault := by cases r <;> rfl
@[simp] theorem State.set8_draws (r : Reg8) (v : Byte) : (s.set8 r v).draws = s.draws := by cases r <;> rfl

/-! ### `set16` -/

@[simp] theorem State.set16_ix (p : RegQQ) (v : Word) : (s.set16 p v).ix = s.ix := by cases p <;> rfl
@[simp] theorem State.set16_iy (p : RegQQ) (v : Word) : (s.set16 p v).iy = s.iy := by cases p <;> rfl
@[simp] theorem State.set16_sp (p : RegQQ) (v : Word) : (s.set16 p v).sp = s.sp := by cases p <;> rfl
@[simp] theorem State.set16_pc (p : RegQQ) (v : Word) : (s.set16 p v).pc = s.pc := by cases p <;> rfl
@[simp] theorem State.set16_mem (p : RegQQ) (v : Word) : (s.set16 p v).mem = s.mem := by cases p <;> rfl
@[simp] theorem State.set16_ports (p : RegQQ) (v : Word) : (s.set16 p v).ports = s.ports := by cases p <;> rfl
@[simp] theorem State.set16_fault (p : RegQQ) (v : Word) : (s.set16 p v).fault = s.fault := by cases p <;> rfl
@[simp] theorem State.set16_draws (p : RegQQ) (v : Word) : (s.set16 p v).draws = s.draws := by cases p <;> rfl

/-! ### `setDD` -/

@[simp] theorem State.setDD_a (r : RegDD) (v : Word) : (s.setDD r v).a = s.a := by cases r <;> rfl
@[simp] theorem State.setDD_f (r : RegDD) (v : Word) : (s.setDD r v).f = s.f := by cases r <;> rfl
@[simp] theorem State.setDD_ix (r : RegDD) (v : Word) : (s.setDD r v).ix = s.ix := by cases r <;> rfl
@[simp] theorem State.setDD_iy (r : RegDD) (v : Word) : (s.setDD r v).iy = s.iy := by cases r <;> rfl
@[simp] theorem State.setDD_pc (r : RegDD) (v : Word) : (s.setDD r v).pc = s.pc := by cases r <;> rfl
@[simp] theorem State.setDD_mem (r : RegDD) (v : Word) : (s.setDD r v).mem = s.mem := by cases r <;> rfl
@[simp] theorem State.setDD_ports (r : RegDD) (v : Word) : (s.setDD r v).ports = s.ports := by cases r <;> rfl
@[simp] theorem State.setDD_fault (r : RegDD) (v : Word) : (s.setDD r v).fault = s.fault := by cases r <;> rfl
@[simp] theorem State.setDD_draws (r : RegDD) (v : Word) : (s.setDD r v).draws = s.draws := by cases r <;> rfl

/-! ### `setX` -/

@[simp] theorem State.setX_f (o : Operand8) (v : Byte) : (s.setX o v).f = s.f := by rcases o with r | _ <;> first | rfl | (cases r <;> rfl)
@[simp] theorem State.setX_ix (o : Operand8) (v : Byte) : (s.setX o v).ix = s.ix := by rcases o with r | _ <;> first | rfl | (cases r <;> rfl)
@[simp] theorem State.setX_iy (o : Operand8) (v : Byte) : (s.setX o v).iy = s.iy := by rcases o with r | _ <;> first | rfl | (cases r <;> rfl)
@[simp] theorem State.setX_sp (o : Operand8) (v : Byte) : (s.setX o v).sp = s.sp := by rcases o with r | _ <;> first | rfl | (cases r <;> rfl)
@[simp] theorem State.setX_pc (o : Operand8) (v : Byte) : (s.setX o v).pc = s.pc := by rcases o with r | _ <;> first | rfl | (cases r <;> rfl)
@[simp] theorem State.setX_ports (o : Operand8) (v : Byte) : (s.setX o v).ports = s.ports := by rcases o with r | _ <;> first | rfl | (cases r <;> rfl)
@[simp] theorem State.setX_fault (o : Operand8) (v : Byte) : (s.setX o v).fault = s.fault := by rcases o with r | _ <;> first | rfl | (cases r <;> rfl)
@[simp] theorem State.setX_draws (o : Operand8) (v : Byte) : (s.setX o v).draws = s.draws := by rcases o with r | _ <;> first | rfl | (cases r <;> rfl)

/-! ### `placeAtPc` -/

@[simp] theorem State.placeAtPc_a (bytes : Byte × Byte × Byte) : (s.placeAtPc bytes).a = s.a := rfl
@[simp] theorem State.placeAtPc_f (bytes : Byte × Byte × Byte) : (s.placeAtPc bytes).f = s.f := rfl
@[simp] theorem State.placeAtPc_b (bytes : Byte × Byte × Byte) : (s.placeAtPc bytes).b = s.b := rfl
@[simp] theorem State.placeAtPc_c (bytes : Byte × Byte × Byte) : (s.placeAtPc bytes).c = s.c := rfl
@[simp] theorem State.placeAtPc_d (bytes : Byte × Byte × Byte) : (s.placeAtPc bytes).d = s.d := rfl
@[simp] theorem State.placeAtPc_e (bytes : Byte × Byte × Byte) : (s.placeAtPc bytes).e = s.e := rfl
@[simp] theorem State.placeAtPc_h (bytes : Byte × Byte × Byte) : (s.placeAtPc bytes).h = s.h := rfl
@[simp] theorem State.placeAtPc_l (bytes : Byte × Byte × Byte) : (s.placeAtPc bytes).l = s.l := rfl
@[simp] theorem State.placeAtPc_ix (bytes : Byte × Byte × Byte) : (s.placeAtPc bytes).ix = s.ix := rfl
@[simp] theorem State.placeAtPc_iy (bytes : Byte × Byte × Byte) : (s.placeAtPc bytes).iy = s.iy := rfl
@[simp] theorem State.placeAtPc_sp (bytes : Byte × Byte × Byte) : (s.placeAtPc bytes).sp = s.sp := rfl
@[simp] theorem State.placeAtPc_pc (bytes : Byte × Byte × Byte) : (s.placeAtPc bytes).pc = s.pc := rfl
@[simp] theorem State.placeAtPc_ports (bytes : Byte × Byte × Byte) : (s.placeAtPc bytes).ports = s.ports := rfl
@[simp] theorem State.placeAtPc_fault (bytes : Byte × Byte × Byte) : (s.placeAtPc bytes).fault = s.fault := rfl
@[simp] theorem State.placeAtPc_draws (bytes : Byte × Byte × Byte) : (s.placeAtPc bytes).draws = s.draws := rfl

end Sys2Proof.Machine
end

