-- ==== Sys2Proof/Laws/Flags.lean ====
section
/-! SUPPORT. What the flag unit does, bit by bit. -/
namespace Sys2Proof.Machine

/-- Writing a bit of a byte changes that bit alone. -/
theorem getLsbD_putBit (v : Byte) {i : Nat} (hi : i < 8) (b : Bool) (j : Nat) :
    (putBit v i b).getLsbD j = if j = i then b else v.getLsbD j := by
  have one : (1#8 <<< i).getLsbD j = decide (j = i) := by
    rw [BitVec.getLsbD_shiftLeft, BitVec.getLsbD_one]
    by_cases h : j = i
    · subst h; simp [hi]
    · simp only [h, decide_false]
      by_cases h' : j < i
      · simp [h']
      · have : decide (j - i = 0) = false := by simp; omega
        simp [this]
  unfold putBit
  cases b
  · rw [if_neg (by decide), BitVec.getLsbD_and, BitVec.getLsbD_not, one]
    by_cases h : j = i
    · simp [h]
    · by_cases hj : j < 8
      · simp [h, hj]
      · simp [h, BitVec.getLsbD_of_ge v j (by omega)]
  · rw [if_pos rfl, BitVec.getLsbD_or, one]
    by_cases h : j = i <;> simp [h]

theorem Flag.bit_lt (g : Flag) : g.bit < 8 := by cases g <;> decide

theorem Flag.bit_inj {g g' : Flag} : g.bit = g'.bit ↔ g = g' := by cases g <;> cases g' <;> decide

theorem State.getLsbD_putFlag (s : State) (g : Flag) (b : Bool) (j : Nat) :
    (s.putFlag g b).f.getLsbD j = if j = g.bit then b else s.f.getLsbD j :=
  getLsbD_putBit s.f g.bit_lt b j

/-- Writing a flag changes that flag alone. -/
theorem State.flag_putFlag (s : State) (g g' : Flag) (b : Bool) :
    (s.putFlag g b).flag g' = if g' = g then b else s.flag g' := by
  unfold State.flag
  rw [State.getLsbD_putFlag]
  simp only [Flag.bit_inj]

/-- Drawing a flag changes that flag alone; its new value is the next draw. -/
theorem State.getLsbD_drawFlag (s : State) (g : Flag) (j : Nat) :
    (s.drawFlag g).f.getLsbD j = if j = g.bit then Config.arbitraryBit s.draws else s.f.getLsbD j :=
  getLsbD_putBit s.f g.bit_lt _ j

theorem State.getLsbD_updateC (s : State) (raw : Int) (j : Nat) :
    (s.updateC raw).f.getLsbD j = if j = 0 ∧ raw > 255 then true else s.f.getLsbD j := by
  unfold State.updateC
  split
  · rename_i h
    rw [State.setFlag, State.getLsbD_putFlag]
    by_cases hj : j = 0 <;> simp [Flag.bit, h, hj]
  · rename_i h
    simp [h]

/-- Every bit of F that `ArithFlags` (R37) leaves, but H's (bit 4), which is a draw. -/
theorem State.getLsbD_arithFlags (s : State) (r8 : Byte) (raw : Int) (sub : Bool) {j : Nat} (hj : j ≠ 4) :
    (s.arithFlags r8 raw sub).f.getLsbD j =
      if j = 7 then r8.getLsbD 7 else if j = 6 then decide (r8 = 0) else if j = 2 then r8.getLsbD 7
      else if j = 1 then (s.f.getLsbD 1 || sub) else if j = 0 then (s.f.getLsbD 0 || decide (raw > 255))
      else s.f.getLsbD j := by
  have core : ((((s.updateS r8).updateZ r8).updatePV r8).updateC raw).updateH.f.getLsbD j =
      if j = 7 then r8.getLsbD 7 else if j = 6 then decide (r8 = 0) else if j = 2 then r8.getLsbD 7
      else if j = 1 then s.f.getLsbD 1 else if j = 0 then (s.f.getLsbD 0 || decide (raw > 255))
      else s.f.getLsbD j := by
    unfold State.updateH
    rw [State.getLsbD_drawFlag, if_neg (show j ≠ Flag.bit .h from hj), State.getLsbD_updateC]
    unfold State.updatePV State.updateZ State.updateS
    rw [State.getLsbD_putFlag, State.getLsbD_putFlag, State.getLsbD_putFlag]
    simp only [Flag.bit]
    by_cases h0 : j = 0
    · subst h0
      by_cases hr : raw > 255 <;> simp [hr]
    · by_cases h1 : j = 1
      · subst h1; simp
      · by_cases h2 : j = 2
        · subst h2; simp
        · by_cases h6 : j = 6
          · subst h6; simp
          · simp [h0, h1, h2, h6]
  unfold State.arithFlags
  cases sub
  · simpa using core
  · simp only [if_true]
    unfold State.setFlag
    rw [State.getLsbD_putFlag, core]
    simp only [Flag.bit]
    by_cases h1 : j = 1
    · subst h1; simp
    · simp [h1]

/-- Every bit of F that `LogicFlags` (R37) leaves, but H's and N's (bits 4 and 1), which are draws. -/
theorem State.getLsbD_logicFlags (s : State) (r8 : Byte) {j : Nat} (h4 : j ≠ 4) (h1 : j ≠ 1) :
    (s.logicFlags r8).f.getLsbD j =
      if j = 7 then r8.getLsbD 7 else if j = 6 then decide (r8 = 0) else if j = 2 then r8.getLsbD 7
      else if j = 0 then false else s.f.getLsbD j := by
  unfold State.logicFlags
  rw [State.getLsbD_drawFlag, if_neg (show j ≠ Flag.bit .n from h1)]
  unfold State.updateH
  rw [State.getLsbD_drawFlag, if_neg (show j ≠ Flag.bit .h from h4)]
  unfold State.resetFlag State.updatePV State.updateZ State.updateS
  rw [State.getLsbD_putFlag, State.getLsbD_putFlag, State.getLsbD_putFlag, State.getLsbD_putFlag]
  simp only [Flag.bit]
  by_cases h0 : j = 0
  · subst h0; simp
  · by_cases h2 : j = 2
    · subst h2; simp
    · by_cases h6 : j = 6
      · subst h6; simp
      · simp [h0, h2, h6]

/-- Every bit of F that drawing H and N leaves, but those two. -/
theorem State.getLsbD_drawHN (s : State) {j : Nat} (h4 : j ≠ 4) (h1 : j ≠ 1) :
    s.drawHN.f.getLsbD j = s.f.getLsbD j := by
  unfold State.drawHN
  rw [State.getLsbD_drawFlag, if_neg (show j ≠ Flag.bit .n from h1), State.getLsbD_drawFlag,
    if_neg (show j ≠ Flag.bit .h from h4)]

/-- Every bit of F that writing C and drawing H and N leaves, but those two. -/
theorem State.getLsbD_carryFlags (s : State) (c : Bool) {j : Nat} (h4 : j ≠ 4) (h1 : j ≠ 1) :
    (s.carryFlags c).f.getLsbD j = if j = 0 then c else s.f.getLsbD j := by
  unfold State.carryFlags
  rw [State.getLsbD_drawHN _ h4 h1, State.getLsbD_putFlag]
  rfl

/-- `ArithFlags` leaves what R37 says. -/
theorem State.arithFlags_spec (s : State) (r8 : Byte) (raw : Int) (sub : Bool) :
    ArithFlagsHold s (s.arithFlags r8 raw sub) r8 raw sub := by
  refine ⟨⟨?_, ?_, ?_⟩, ?_, ?_, ?_, ?_⟩ <;>
    first
      | (unfold State.flag; rw [State.getLsbD_arithFlags _ _ _ _ (by decide)]; rfl)
      | (rw [State.getLsbD_arithFlags _ _ _ _ (by decide)]; rfl)

/-- `LogicFlags` leaves what R37 says. -/
theorem State.logicFlags_spec (s : State) (r8 : Byte) : LogicFlagsHold s (s.logicFlags r8) r8 := by
  refine ⟨⟨?_, ?_, ?_⟩, ?_, ?_, ?_⟩ <;>
    first
      | (unfold State.flag; rw [State.getLsbD_logicFlags _ _ (by decide) (by decide)]; rfl)
      | (rw [State.getLsbD_logicFlags _ _ (by decide) (by decide)]; rfl)

/-- What the instructions of spec/46_misc_arith_rotate.md leave of the flags when they write C. -/
theorem State.carryFlags_spec (s : State) (c : Bool) :
    (s.carryFlags c).flag .c = c ∧ ResultFlagsKept s (s.carryFlags c) ∧ UnusedKept s (s.carryFlags c) := by
  refine ⟨?_, ⟨?_, ?_, ?_⟩, ?_, ?_⟩ <;>
    first
      | (unfold State.flag; rw [State.getLsbD_carryFlags _ _ (by decide) (by decide)]; rfl)
      | (rw [State.getLsbD_carryFlags _ _ (by decide) (by decide)]; rfl)

/-- What they leave when they do not. -/
theorem State.drawHN_spec (s : State) :
    s.drawHN.flag .c = s.flag .c ∧ ResultFlagsKept s s.drawHN ∧ UnusedKept s s.drawHN := by
  refine ⟨?_, ⟨?_, ?_, ?_⟩, ?_, ?_⟩ <;>
    first
      | (unfold State.flag; rw [State.getLsbD_drawHN _ (by decide) (by decide)])
      | rw [State.getLsbD_drawHN _ (by decide) (by decide)]

/-! ## What each flag procedure changes: F and the draws, nothing else -/

theorem State.arithFlags_eq (s : State) (r8 : Byte) (raw : Int) (sub : Bool) : s.arithFlags r8 raw sub =
    { s with f := (s.arithFlags r8 raw sub).f, draws := (s.arithFlags r8 raw sub).draws } := by
  unfold State.arithFlags State.updateH State.drawFlag State.draw State.updateC State.setFlag
  dsimp only
  split <;> split <;> rfl

theorem State.logicFlags_eq (s : State) (r8 : Byte) :
    s.logicFlags r8 = { s with f := (s.logicFlags r8).f, draws := (s.logicFlags r8).draws } := rfl

theorem State.carryFlags_eq (s : State) (c : Bool) :
    s.carryFlags c = { s with f := (s.carryFlags c).f, draws := (s.carryFlags c).draws } := rfl

theorem State.drawHN_eq (s : State) : s.drawHN = { s with f := s.drawHN.f, draws := s.drawHN.draws } := rfl

/-- What `ArithFlags` leaves is a matter of F alone. -/
theorem ArithFlagsHold.congr {s s' t t' : State} {r8 : Byte} {raw : Int} {sub : Bool} (h : ArithFlagsHold s t r8 raw sub)
    (hs : s.f = s'.f) (ht : t.f = t'.f) : ArithFlagsHold s' t' r8 raw sub := by
  unfold ArithFlagsHold ResultFlags UnusedKept State.flag at *
  rw [← hs, ← ht]
  exact h

/-! ## The flags one by one -/

variable (s : State)

@[simp] theorem State.flag_advance (k : Word) (g : Flag) : (s.advance k).flag g = s.flag g := rfl
@[simp] theorem State.flag_goto (k : Word) (g : Flag) : (s.goto k).flag g = s.flag g := rfl
@[simp] theorem State.flag_memWrite (a : Word) (v : Byte) (g : Flag) : (s.memWrite a v).flag g = s.flag g := rfl
@[simp] theorem State.flag_set8 (r : Reg8) (v : Byte) (g : Flag) : (s.set8 r v).flag g = s.flag g := by cases r <;> rfl
@[simp] theorem State.flag_setX (o : Operand8) (v : Byte) (g : Flag) : (s.setX o v).flag g = s.flag g := by
  cases o with
  | reg r => exact s.flag_set8 r v g
  | mHL => rfl

theorem State.flag_s_arithFlags (r8 : Byte) (raw : Int) (sub : Bool) :
    (s.arithFlags r8 raw sub).flag .s = r8.getLsbD 7 := (s.arithFlags_spec r8 raw sub).1.1
theorem State.flag_z_arithFlags (r8 : Byte) (raw : Int) (sub : Bool) :
    (s.arithFlags r8 raw sub).flag .z = decide (r8 = 0) := (s.arithFlags_spec r8 raw sub).1.2.1
theorem State.flag_pv_arithFlags (r8 : Byte) (raw : Int) (sub : Bool) :
    (s.arithFlags r8 raw sub).flag .pv = r8.getLsbD 7 := (s.arithFlags_spec r8 raw sub).1.2.2
theorem State.flag_c_arithFlags (r8 : Byte) (raw : Int) (sub : Bool) :
    (s.arithFlags r8 raw sub).flag .c = (s.flag .c || decide (raw > 255)) := (s.arithFlags_spec r8 raw sub).2.1
theorem State.flag_n_arithFlags (r8 : Byte) (raw : Int) (sub : Bool) :
    (s.arithFlags r8 raw sub).flag .n = (s.flag .n || sub) := (s.arithFlags_spec r8 raw sub).2.2.1

theorem State.flag_s_logicFlags (r8 : Byte) : (s.logicFlags r8).flag .s = r8.getLsbD 7 := (s.logicFlags_spec r8).1.1
theorem State.flag_z_logicFlags (r8 : Byte) : (s.logicFlags r8).flag .z = decide (r8 = 0) := (s.logicFlags_spec r8).1.2.1
theorem State.flag_pv_logicFlags (r8 : Byte) : (s.logicFlags r8).flag .pv = r8.getLsbD 7 :=
  (s.logicFlags_spec r8).1.2.2
theorem State.flag_c_logicFlags (r8 : Byte) : (s.logicFlags r8).flag .c = false := (s.logicFlags_spec r8).2.1

theorem State.flag_s_carryFlags (c : Bool) : (s.carryFlags c).flag .s = s.flag .s := (s.carryFlags_spec c).2.1.1
theorem State.flag_z_carryFlags (c : Bool) : (s.carryFlags c).flag .z = s.flag .z := (s.carryFlags_spec c).2.1.2.1
theorem State.flag_pv_carryFlags (c : Bool) : (s.carryFlags c).flag .pv = s.flag .pv := (s.carryFlags_spec c).2.1.2.2
theorem State.flag_c_carryFlags (c : Bool) : (s.carryFlags c).flag .c = c := (s.carryFlags_spec c).1

theorem State.flag_s_drawHN : s.drawHN.flag .s = s.flag .s := s.drawHN_spec.2.1.1
theorem State.flag_z_drawHN : s.drawHN.flag .z = s.flag .z := s.drawHN_spec.2.1.2.1
theorem State.flag_pv_drawHN : s.drawHN.flag .pv = s.flag .pv := s.drawHN_spec.2.1.2.2
theorem State.flag_c_drawHN : s.drawHN.flag .c = s.flag .c := s.drawHN_spec.1

end Sys2Proof.Machine
end

