-- ==== Sys2Proof/Laws/Forms.lean ====
section
/-! SUPPORT. The instructions by form: one lemma per form says what `exec` does with it, and `instr_by_forms` proves a claim
about every instruction from one proof per form. -/
namespace Sys2Proof.Machine

/-- A claim about every instruction, from one proof per form and one per instruction of no form. -/
theorem instr_by_forms {P : Instr → Prop}
    (ld : ∀ dst src, ¬(dst = .mHL ∧ src = .mHL) → P (Form.ld dst src))
    (ldImm : ∀ o n, P (Form.ldImm o n))
    (inc : ∀ o, P (Form.inc o))
    (dec : ∀ o, P (Form.dec o))
    (alu : ∀ op v, P (Form.alu op v))
    (ldDD : ∀ r nn, P (Form.ldDD r nn))
    (addHL : ∀ r, P (Form.addHL r))
    (incDD : ∀ r, P (Form.incDD r))
    (decDD : ∀ r, P (Form.decDD r))
    (push : ∀ p, P (Form.push p))
    (pop : ∀ p, P (Form.pop p))
    (jpCc : ∀ cc nn, P (Form.jpCc cc nn))
    (jrCc : ∀ cc e, P (Form.jrCc cc e))
    (callCc : ∀ cc nn, P (Form.callCc cc nn))
    (retCc : ∀ cc, P (Form.retCc cc))
    (rst : ∀ k, P (Form.rst k))
    (djnz_e : ∀ e, P (.djnz_e e))
    (jr_e : ∀ e, P (.jr_e e))
    (ldmnn_HL : ∀ nn, P (.ldmnn_HL nn))
    (ldHL_mnn : ∀ nn, P (.ldHL_mnn nn))
    (ldmnn_A : ∀ nn, P (.ldmnn_A nn))
    (ldA_mnn : ∀ nn, P (.ldA_mnn nn))
    (jp_nn : ∀ nn, P (.jp_nn nn))
    (call_nn : ∀ nn, P (.call_nn nn))
    (outmn_A : ∀ n, P (.outmn_A n))
    (inA_mn : ∀ n, P (.inA_mn n))
    (nop : P .nop)
    (ldmBC_A : P .ldmBC_A)
    (rlca : P .rlca)
    (exAF_AF : P .exAF_AF)
    (ldA_mBC : P .ldA_mBC)
    (rrca : P .rrca)
    (ldmDE_A : P .ldmDE_A)
    (rla : P .rla)
    (ldA_mDE : P .ldA_mDE)
    (rra : P .rra)
    (daa : P .daa)
    (cpl : P .cpl)
    (scf : P .scf)
    (ccf : P .ccf)
    (halt : P .halt)
    (ret : P .ret)
    (cbPrefix : P .cbPrefix)
    (exx : P .exx)
    (ddPrefix : P .ddPrefix)
    (exmSP_HL : P .exmSP_HL)
    (jpHL : P .jpHL)
    (exDE_HL : P .exDE_HL)
    (edPrefix : P .edPrefix)
    (di : P .di)
    (ldSP_HL : P .ldSP_HL)
    (ei : P .ei)
    (fdPrefix : P .fdPrefix) (i : Instr) : P i :=
  match i with
  | .ldBC_nn nn => ldDD .bc nn
  | .ldB_n n => ldImm (.reg .b) n
  | .ldC_n n => ldImm (.reg .c) n
  | .djnz_e e => djnz_e e
  | .ldDE_nn nn => ldDD .de nn
  | .ldD_n n => ldImm (.reg .d) n
  | .jr_e e => jr_e e
  | .ldE_n n => ldImm (.reg .e) n
  | .jrNZ_e e => jrCc .nz e
  | .ldHL_nn nn => ldDD .hl nn
  | .ldmnn_HL nn => ldmnn_HL nn
  | .ldH_n n => ldImm (.reg .h) n
  | .jrZ_e e => jrCc .z e
  | .ldHL_mnn nn => ldHL_mnn nn
  | .ldL_n n => ldImm (.reg .l) n
  | .jrNC_e e => jrCc .nc e
  | .ldSP_nn nn => ldDD .sp nn
  | .ldmnn_A nn => ldmnn_A nn
  | .ldmHL_n n => ldImm .mHL n
  | .jrC_e e => jrCc .c e
  | .ldA_mnn nn => ldA_mnn nn
  | .ldA_n n => ldImm (.reg .a) n
  | .jpNZ_nn nn => jpCc .nz nn
  | .jp_nn nn => jp_nn nn
  | .callNZ_nn nn => callCc .nz nn
  | .addA_n n => alu .add (.imm n)
  | .jpZ_nn nn => jpCc .z nn
  | .callZ_nn nn => callCc .z nn
  | .call_nn nn => call_nn nn
  | .adcA_n n => alu .adc (.imm n)
  | .jpNC_nn nn => jpCc .nc nn
  | .outmn_A n => outmn_A n
  | .callNC_nn nn => callCc .nc nn
  | .sub_n n => alu .sub (.imm n)
  | .jpC_nn nn => jpCc .c nn
  | .inA_mn n => inA_mn n
  | .callC_nn nn => callCc .c nn
  | .sbcA_n n => alu .sbc (.imm n)
  | .jpPO_nn nn => jpCc .po nn
  | .callPO_nn nn => callCc .po nn
  | .and_n n => alu .and (.imm n)
  | .jpPE_nn nn => jpCc .pe nn
  | .callPE_nn nn => callCc .pe nn
  | .xor_n n => alu .xor (.imm n)
  | .jpP_nn nn => jpCc .p nn
  | .callP_nn nn => callCc .p nn
  | .or_n n => alu .or (.imm n)
  | .jpM_nn nn => jpCc .m nn
  | .callM_nn nn => callCc .m nn
  | .cp_n n => alu .cp (.imm n)
  | .nop => nop
  | .ldmBC_A => ldmBC_A
  | .incBC => incDD .bc
  | .incB => inc (.reg .b)
  | .decB => dec (.reg .b)
  | .rlca => rlca
  | .exAF_AF => exAF_AF
  | .addHL_BC => addHL .bc
  | .ldA_mBC => ldA_mBC
  | .decBC => decDD .bc
  | .incC => inc (.reg .c)
  | .decC => dec (.reg .c)
  | .rrca => rrca
  | .ldmDE_A => ldmDE_A
  | .incDE => incDD .de
  | .incD => inc (.reg .d)
  | .decD => dec (.reg .d)
  | .rla => rla
  | .addHL_DE => addHL .de
  | .ldA_mDE => ldA_mDE
  | .decDE => decDD .de
  | .incE => inc (.reg .e)
  | .decE => dec (.reg .e)
  | .rra => rra
  | .incHL => incDD .hl
  | .incH => inc (.reg .h)
  | .decH => dec (.reg .h)
  | .daa => daa
  | .addHL_HL => addHL .hl
  | .decHL => decDD .hl
  | .incL => inc (.reg .l)
  | .decL => dec (.reg .l)
  | .cpl => cpl
  | .incSP => incDD .sp
  | .incmHL => inc .mHL
  | .decmHL => dec .mHL
  | .scf => scf
  | .addHL_SP => addHL .sp
  | .decSP => decDD .sp
  | .incA => inc (.reg .a)
  | .decA => dec (.reg .a)
  | .ccf => ccf
  | .ldB_B => ld (.reg .b) (.reg .b) (by decide)
  | .ldB_C => ld (.reg .b) (.reg .c) (by decide)
  | .ldB_D => ld (.reg .b) (.reg .d) (by decide)
  | .ldB_E => ld (.reg .b) (.reg .e) (by decide)
  | .ldB_H => ld (.reg .b) (.reg .h) (by decide)
  | .ldB_L => ld (.reg .b) (.reg .l) (by decide)
  | .ldB_mHL => ld (.reg .b) .mHL (by decide)
  | .ldB_A => ld (.reg .b) (.reg .a) (by decide)
  | .ldC_B => ld (.reg .c) (.reg .b) (by decide)
  | .ldC_C => ld (.reg .c) (.reg .c) (by decide)
  | .ldC_D => ld (.reg .c) (.reg .d) (by decide)
  | .ldC_E => ld (.reg .c) (.reg .e) (by decide)
  | .ldC_H => ld (.reg .c) (.reg .h) (by decide)
  | .ldC_L => ld (.reg .c) (.reg .l) (by decide)
  | .ldC_mHL => ld (.reg .c) .mHL (by decide)
  | .ldC_A => ld (.reg .c) (.reg .a) (by decide)
  | .ldD_B => ld (.reg .d) (.reg .b) (by decide)
  | .ldD_C => ld (.reg .d) (.reg .c) (by decide)
  | .ldD_D => ld (.reg .d) (.reg .d) (by decide)
  | .ldD_E => ld (.reg .d) (.reg .e) (by decide)
  | .ldD_H => ld (.reg .d) (.reg .h) (by decide)
  | .ldD_L => ld (.reg .d) (.reg .l) (by decide)
  | .ldD_mHL => ld (.reg .d) .mHL (by decide)
  | .ldD_A => ld (.reg .d) (.reg .a) (by decide)
  | .ldE_B => ld (.reg .e) (.reg .b) (by decide)
  | .ldE_C => ld (.reg .e) (.reg .c) (by decide)
  | .ldE_D => ld (.reg .e) (.reg .d) (by decide)
  | .ldE_E => ld (.reg .e) (.reg .e) (by decide)
  | .ldE_H => ld (.reg .e) (.reg .h) (by decide)
  | .ldE_L => ld (.reg .e) (.reg .l) (by decide)
  | .ldE_mHL => ld (.reg .e) .mHL (by decide)
  | .ldE_A => ld (.reg .e) (.reg .a) (by decide)
  | .ldH_B => ld (.reg .h) (.reg .b) (by decide)
  | .ldH_C => ld (.reg .h) (.reg .c) (by decide)
  | .ldH_D => ld (.reg .h) (.reg .d) (by decide)
  | .ldH_E => ld (.reg .h) (.reg .e) (by decide)
  | .ldH_H => ld (.reg .h) (.reg .h) (by decide)
  | .ldH_L => ld (.reg .h) (.reg .l) (by decide)
  | .ldH_mHL => ld (.reg .h) .mHL (by decide)
  | .ldH_A => ld (.reg .h) (.reg .a) (by decide)
  | .ldL_B => ld (.reg .l) (.reg .b) (by decide)
  | .ldL_C => ld (.reg .l) (.reg .c) (by decide)
  | .ldL_D => ld (.reg .l) (.reg .d) (by decide)
  | .ldL_E => ld (.reg .l) (.reg .e) (by decide)
  | .ldL_H => ld (.reg .l) (.reg .h) (by decide)
  | .ldL_L => ld (.reg .l) (.reg .l) (by decide)
  | .ldL_mHL => ld (.reg .l) .mHL (by decide)
  | .ldL_A => ld (.reg .l) (.reg .a) (by decide)
  | .ldmHL_B => ld .mHL (.reg .b) (by decide)
  | .ldmHL_C => ld .mHL (.reg .c) (by decide)
  | .ldmHL_D => ld .mHL (.reg .d) (by decide)
  | .ldmHL_E => ld .mHL (.reg .e) (by decide)
  | .ldmHL_H => ld .mHL (.reg .h) (by decide)
  | .ldmHL_L => ld .mHL (.reg .l) (by decide)
  | .halt => halt
  | .ldmHL_A => ld .mHL (.reg .a) (by decide)
  | .ldA_B => ld (.reg .a) (.reg .b) (by decide)
  | .ldA_C => ld (.reg .a) (.reg .c) (by decide)
  | .ldA_D => ld (.reg .a) (.reg .d) (by decide)
  | .ldA_E => ld (.reg .a) (.reg .e) (by decide)
  | .ldA_H => ld (.reg .a) (.reg .h) (by decide)
  | .ldA_L => ld (.reg .a) (.reg .l) (by decide)
  | .ldA_mHL => ld (.reg .a) .mHL (by decide)
  | .ldA_A => ld (.reg .a) (.reg .a) (by decide)
  | .addA_B => alu .add (.op (.reg .b))
  | .addA_C => alu .add (.op (.reg .c))
  | .addA_D => alu .add (.op (.reg .d))
  | .addA_E => alu .add (.op (.reg .e))
  | .addA_H => alu .add (.op (.reg .h))
  | .addA_L => alu .add (.op (.reg .l))
  | .addA_mHL => alu .add (.op .mHL)
  | .addA_A => alu .add (.op (.reg .a))
  | .adcA_B => alu .adc (.op (.reg .b))
  | .adcA_C => alu .adc (.op (.reg .c))
  | .adcA_D => alu .adc (.op (.reg .d))
  | .adcA_E => alu .adc (.op (.reg .e))
  | .adcA_H => alu .adc (.op (.reg .h))
  | .adcA_L => alu .adc (.op (.reg .l))
  | .adcA_mHL => alu .adc (.op .mHL)
  | .adcA_A => alu .adc (.op (.reg .a))
  | .subB => alu .sub (.op (.reg .b))
  | .subC => alu .sub (.op (.reg .c))
  | .subD => alu .sub (.op (.reg .d))
  | .subE => alu .sub (.op (.reg .e))
  | .subH => alu .sub (.op (.reg .h))
  | .subL => alu .sub (.op (.reg .l))
  | .submHL => alu .sub (.op .mHL)
  | .subA => alu .sub (.op (.reg .a))
  | .sbcA_B => alu .sbc (.op (.reg .b))
  | .sbcA_C => alu .sbc (.op (.reg .c))
  | .sbcA_D => alu .sbc (.op (.reg .d))
  | .sbcA_E => alu .sbc (.op (.reg .e))
  | .sbcA_H => alu .sbc (.op (.reg .h))
  | .sbcA_L => alu .sbc (.op (.reg .l))
  | .sbcA_mHL => alu .sbc (.op .mHL)
  | .sbcA_A => alu .sbc (.op (.reg .a))
  | .andB => alu .and (.op (.reg .b))
  | .andC => alu .and (.op (.reg .c))
  | .andD => alu .and (.op (.reg .d))
  | .andE => alu .and (.op (.reg .e))
  | .andH => alu .and (.op (.reg .h))
  | .andL => alu .and (.op (.reg .l))
  | .andmHL => alu .and (.op .mHL)
  | .andA => alu .and (.op (.reg .a))
  | .xorB => alu .xor (.op (.reg .b))
  | .xorC => alu .xor (.op (.reg .c))
  | .xorD => alu .xor (.op (.reg .d))
  | .xorE => alu .xor (.op (.reg .e))
  | .xorH => alu .xor (.op (.reg .h))
  | .xorL => alu .xor (.op (.reg .l))
  | .xormHL => alu .xor (.op .mHL)
  | .xorA => alu .xor (.op (.reg .a))
  | .orB => alu .or (.op (.reg .b))
  | .orC => alu .or (.op (.reg .c))
  | .orD => alu .or (.op (.reg .d))
  | .orE => alu .or (.op (.reg .e))
  | .orH => alu .or (.op (.reg .h))
  | .orL => alu .or (.op (.reg .l))
  | .ormHL => alu .or (.op .mHL)
  | .orA => alu .or (.op (.reg .a))
  | .cpB => alu .cp (.op (.reg .b))
  | .cpC => alu .cp (.op (.reg .c))
  | .cpD => alu .cp (.op (.reg .d))
  | .cpE => alu .cp (.op (.reg .e))
  | .cpH => alu .cp (.op (.reg .h))
  | .cpL => alu .cp (.op (.reg .l))
  | .cpmHL => alu .cp (.op .mHL)
  | .cpA => alu .cp (.op (.reg .a))
  | .retNZ => retCc .nz
  | .popBC => pop .bc
  | .pushBC => push .bc
  | .rst00 => rst 0
  | .retZ => retCc .z
  | .ret => ret
  | .cbPrefix => cbPrefix
  | .rst08 => rst 1
  | .retNC => retCc .nc
  | .popDE => pop .de
  | .pushDE => push .de
  | .rst10 => rst 2
  | .retC => retCc .c
  | .exx => exx
  | .ddPrefix => ddPrefix
  | .rst18 => rst 3
  | .retPO => retCc .po
  | .popHL => pop .hl
  | .exmSP_HL => exmSP_HL
  | .pushHL => push .hl
  | .rst20 => rst 4
  | .retPE => retCc .pe
  | .jpHL => jpHL
  | .exDE_HL => exDE_HL
  | .edPrefix => edPrefix
  | .rst28 => rst 5
  | .retP => retCc .p
  | .popAF => pop .af
  | .di => di
  | .pushAF => push .af
  | .rst30 => rst 6
  | .retM => retCc .m
  | .ldSP_HL => ldSP_HL
  | .ei => ei
  | .fdPrefix => fdPrefix
  | .rst38 => rst 7

variable (s : State)

theorem exec_ld {dst src : Operand8} (h : ¬(dst = .mHL ∧ src = .mHL)) :
    exec (Form.ld dst src) s = .next ((s.setX dst (s.x src)).advance 1) := by
  match dst, src, h with
  | .reg q, .reg r, _ => cases q <;> cases r <;> rfl
  | .reg q, .mHL, _ => cases q <;> rfl
  | .mHL, .reg r, _ => cases r <;> rfl
  | .mHL, .mHL, h => exact absurd ⟨rfl, rfl⟩ h

theorem exec_ldImm (o : Operand8) (n : Byte) : exec (Form.ldImm o n) s = .next ((s.setX o n).advance 2) := by
  match o with
  | .reg r => cases r <;> rfl
  | .mHL => rfl

theorem exec_inc (o : Operand8) : exec (Form.inc o) s = aluInc o s := by
  match o with
  | .reg r => cases r <;> rfl
  | .mHL => rfl

theorem exec_dec (o : Operand8) : exec (Form.dec o) s = aluDec o s := by
  match o with
  | .reg r => cases r <;> rfl
  | .mHL => rfl

/-- The shared operation of an accumulator operation. -/
theorem exec_alu (op : AluOp) (v : AluSrc) : exec (Form.alu op v) s =
    match op with
    | .add => aluAdd v s
    | .adc => aluAdc v s
    | .sub => aluSub v s
    | .sbc => aluSbc v s
    | .and => aluAnd v s
    | .xor => aluXor v s
    | .or => aluOr v s
    | .cp => aluCp v s := by
  match v with
  | .op (.reg r) => cases op <;> cases r <;> rfl
  | .op .mHL => cases op <;> rfl
  | .imm n => cases op <;> rfl

theorem exec_ldDD (r : RegDD) (nn : Word) : exec (Form.ldDD r nn) s = .next ((s.setDD r nn).advance 3) := by
  cases r <;> rfl

theorem exec_addHL (r : RegDD) : exec (Form.addHL r) s = addHL r s := by cases r <;> rfl

theorem exec_incDD (r : RegDD) : exec (Form.incDD r) s = .next ((s.setDD r (s.getDD r + 1)).advance 1) := by
  cases r <;> rfl

theorem exec_decDD (r : RegDD) : exec (Form.decDD r) s = .next ((s.setDD r (s.getDD r - 1)).advance 1) := by
  cases r <;> rfl

theorem exec_push (p : RegQQ) : exec (Form.push p) s = push p s := by cases p <;> rfl

theorem exec_pop (p : RegQQ) : exec (Form.pop p) s = pop p s := by cases p <;> rfl

theorem exec_jpCc (cc : Cond) (nn : Word) : exec (Form.jpCc cc nn) s = .next (s.jump (s.cond cc) nn 3) := by
  cases cc <;> rfl

theorem exec_jrCc (cc : CondJR) (e : Int) :
    exec (Form.jrCc cc e) s = .next (s.relativeJump (s.cond (condOfJR cc)) e 2) := by cases cc <;> rfl

theorem exec_callCc (cc : Cond) (nn : Word) : exec (Form.callCc cc nn) s = .next (s.call (s.cond cc) nn) := by
  cases cc <;> rfl

theorem exec_retCc (cc : Cond) : exec (Form.retCc cc) s = .next (s.ret (s.cond cc)) := by cases cc <;> rfl

theorem exec_rst (k : Fin 8) : exec (Form.rst k) s = .next (s.restart (BitVec.ofNat 16 (k.val * 8))) := by
  fin_cases k <;> rfl

/-- IN A,(n) on a port that exists. -/
theorem input_ok {n : Byte} (h : n.toNat < 16) : input n s = .next ((s.set8 .a s.ports[n.toNat]).advance 2) := by
  unfold input State.portRead
  rw [dif_pos h]

/-- IN A,(n) on a port that does not exist. -/
theorem input_fault {n : Byte} (h : 16 ≤ n.toNat) : input n s = .next (s.raise (.portOutOfRange s.pc n)) := by
  unfold input State.portRead
  rw [dif_neg (Nat.not_lt.2 h)]

/-- OUT (n),A on a port that exists. -/
theorem output_ok {n : Byte} (h : n.toNat < 16) :
    output n s = .next (({ s with ports := s.ports.set n.toNat s.a } : State).advance 2) := by
  unfold output State.portWrite
  rw [dif_pos h]

/-- OUT (n),A on a port that does not exist. -/
theorem output_fault {n : Byte} (h : 16 ≤ n.toNat) : output n s = .next (s.raise (.portOutOfRange s.pc n)) := by
  unfold output State.portWrite
  rw [dif_neg (Nat.not_lt.2 h)]

end Sys2Proof.Machine
end

