-- ==== Sys2Proof/Laws/Memory.lean ====
section
/-! SUPPORT. Memory as data: reading after writing, and the canonical form, which every operation keeps. -/
namespace Sys2Proof.Machine

/-! ## Reading after writing -/

@[simp] theorem Memory.read_nil (k : Nat) : Memory.read [] k = Memory.unlisted := rfl

theorem Memory.read_cons (x : Host.Cell) (m : Memory) (k : Nat) :
    Memory.read (x :: m) k = if x.1 = k then x.2 else Memory.read m k := rfl

theorem Memory.read_eq_unlisted {m : Memory} {k : Nat} (h : ∀ x ∈ m, x.1 ≠ k) : Memory.read m k = Memory.unlisted := by
  induction m with
  | nil => rfl
  | cons x m ih =>
    rw [Memory.read_cons, if_neg (h x (by simp)), ih fun y hy => h y (by simp [hy])]

theorem Memory.erase_cons (x : Host.Cell) (m : Memory) (k : Nat) :
    Memory.erase (x :: m) k = if x.1 = k then Memory.erase m k else x :: Memory.erase m k := by
  by_cases h : x.1 = k <;> simp [Memory.erase, h]

theorem Memory.mem_erase {m : Memory} {k : Nat} {x : Host.Cell} : x ∈ Memory.erase m k ↔ x ∈ m ∧ x.1 ≠ k := by
  simp [Memory.erase]

theorem Memory.read_erase (m : Memory) (k j : Nat) :
    Memory.read (Memory.erase m k) j = if j = k then Memory.unlisted else Memory.read m j := by
  induction m with
  | nil => simp [Memory.erase]
  | cons x m ih =>
    rw [Memory.erase_cons]
    split
    · rename_i h
      rw [ih, Memory.read_cons]
      split
      · rfl
      · rw [if_neg (by omega)]
    · rw [Memory.read_cons, Memory.read_cons, ih]
      split
      · rw [if_neg (by omega)]
      · rfl

theorem Memory.mem_insert {m : Memory} {k : Nat} {v : Byte} {x : Host.Cell} :
    x ∈ Memory.insert m k v ↔ x = (k, v) ∨ x ∈ m := by
  induction m with
  | nil => simp [Memory.insert]
  | cons y m ih =>
    unfold Memory.insert
    split
    · simp
    · rw [List.mem_cons, ih, List.mem_cons]
      tauto

theorem Memory.read_insert {m : Memory} {k : Nat} (v : Byte) (h : ∀ x ∈ m, x.1 ≠ k) (j : Nat) :
    Memory.read (Memory.insert m k v) j = if j = k then v else Memory.read m j := by
  induction m with
  | nil => simp [Memory.insert, Memory.read_cons, eq_comm]
  | cons y m ih =>
    have hy : y.1 ≠ k := h y (by simp)
    unfold Memory.insert
    split
    · rw [Memory.read_cons]; simp only [eq_comm]
    · rw [Memory.read_cons, Memory.read_cons, ih fun x hx => h x (by simp [hx])]
      split
      · rw [if_neg (by omega)]
      · rfl

/-- Everything a write does to what memory reads as; it needs no canonical form. -/
theorem Memory.read_write (m : Memory) (k : Nat) (v : Byte) (j : Nat) :
    Memory.read (Memory.write m k v) j = if j = k then v else Memory.read m j := by
  unfold Memory.write
  split
  · rename_i h
    rw [Memory.read_erase, h]
  · rw [Memory.read_insert v (fun x hx => (Memory.mem_erase.1 hx).2), Memory.read_erase]
    split <;> rfl

/-! ## The canonical form -/

theorem Memory.wf_nil : Memory.Wf [] := by simp [Memory.Wf]

theorem Memory.wf_erase {m : Memory} (h : m.Wf) (k : Nat) : (Memory.erase m k).Wf :=
  ⟨h.1.filter _, fun x hx => h.2 x (Memory.mem_erase.1 hx).1⟩

theorem Memory.pairwise_insert {m : Memory} {k : Nat} (v : Byte) (h : m.Pairwise (fun x y => x.1 < y.1))
    (hk : ∀ x ∈ m, x.1 ≠ k) : (Memory.insert m k v).Pairwise (fun x y => x.1 < y.1) := by
  induction m with
  | nil => simp [Memory.insert]
  | cons y m ih =>
    obtain ⟨hy, hm⟩ := List.pairwise_cons.1 h
    have hyk : y.1 ≠ k := hk y (by simp)
    unfold Memory.insert
    split
    · rename_i hlt
      refine List.pairwise_cons.2 ⟨?_, h⟩
      intro x hx
      rcases List.mem_cons.1 hx with rfl | hx
      · exact hlt
      · exact lt_trans hlt (hy x hx)
    · refine List.pairwise_cons.2 ⟨?_, ih hm fun x hx => hk x (by simp [hx])⟩
      intro x hx
      rcases Memory.mem_insert.1 hx with rfl | hx
      · change y.1 < k
        omega
      · exact hy x hx

/-- A write keeps the canonical form. -/
theorem Memory.wf_write {m : Memory} (h : m.Wf) {k : Nat} (hk : k < Config.memSize) (v : Byte) :
    (Memory.write m k v).Wf := by
  unfold Memory.write
  split
  · exact Memory.wf_erase h k
  · rename_i hv
    refine ⟨Memory.pairwise_insert v (Memory.wf_erase h k).1 fun x hx => (Memory.mem_erase.1 hx).2, ?_⟩
    intro x hx
    rcases Memory.mem_insert.1 hx with rfl | hx
    · exact ⟨hk, hv⟩
    · exact (Memory.wf_erase h k).2 x hx

theorem Memory.wf_tail {x : Host.Cell} {m : Memory} (h : Memory.Wf (x :: m)) : Memory.Wf m :=
  ⟨(List.pairwise_cons.1 h.1).2, fun y hy => h.2 y (by simp [hy])⟩

/-- Below the first entry of a canonical memory every cell is unlisted. -/
theorem Memory.read_lt_head {x : Host.Cell} {m : Memory} (h : Memory.Wf (x :: m)) {k : Nat} (hk : k ≤ x.1) :
    Memory.read m k = Memory.unlisted :=
  Memory.read_eq_unlisted fun y hy => by
    have := (List.pairwise_cons.1 h.1).1 y hy
    omega

theorem State.wf_memWrite {s : State} (h : s.mem.Wf) (a : Word) (v : Byte) : (s.memWrite a v).mem.Wf :=
  Memory.wf_write h (show a.toNat < 65536 from a.isLt) v

end Sys2Proof.Machine
end

