-- ==== Sys2Proof/Laws/Ops.lean ====
section
/-! SUPPORT. What each shared operation on memory and the stack does, said once. -/
namespace Sys2Proof.Machine

/-- Reading depends on memory alone. -/
theorem State.memRead_congr {s t : State} (h : t.mem = s.mem) (a : Word) : t.memRead a = s.memRead a := by
  unfold State.memRead; rw [h]

/-- Everything `MemWrite` does to what memory reads as. -/
theorem State.memRead_memWrite (s : State) (a b : Word) (v : Byte) :
    (s.memWrite a v).memRead b = if b = a then v else s.memRead b := by
  unfold State.memRead
  rw [State.memWrite_mem, Memory.read_write]
  simp only [BitVec.toNat_inj]

/-- An update that keeps memory is not seen by a read. -/
@[simp] theorem State.memRead_with_pc (s : State) (x : Word) (a : Word) : ({ s with pc := x } : State).memRead a = s.memRead a := rfl
@[simp] theorem State.memRead_with_sp (s : State) (x : Word) (a : Word) : ({ s with sp := x } : State).memRead a = s.memRead a := rfl
@[simp] theorem State.memRead_advance (s : State) (k a : Word) : (s.advance k).memRead a = s.memRead a := rfl
@[simp] theorem State.memRead_goto (s : State) (k a : Word) : (s.goto k).memRead a = s.memRead a := rfl
@[simp] theorem State.memRead_putFlag (s : State) (g : Flag) (v : Bool) (a : Word) :
    (s.putFlag g v).memRead a = s.memRead a := rfl
@[simp] theorem State.memRead_arithFlags (s : State) (r8 : Byte) (raw : Int) (sub : Bool) (a : Word) :
    (s.arithFlags r8 raw sub).memRead a = s.memRead a := State.memRead_congr (State.arithFlags_mem ..) a
@[simp] theorem State.memRead_logicFlags (s : State) (r8 : Byte) (a : Word) :
    (s.logicFlags r8).memRead a = s.memRead a := rfl
@[simp] theorem State.memRead_carryFlags (s : State) (v : Bool) (a : Word) :
    (s.carryFlags v).memRead a = s.memRead a := rfl
@[simp] theorem State.memRead_set8 (s : State) (r : Reg8) (v : Byte) (a : Word) :
    (s.set8 r v).memRead a = s.memRead a := State.memRead_congr (State.set8_mem ..) a
@[simp] theorem State.memRead_set16 (s : State) (p : RegQQ) (v a : Word) :
    (s.set16 p v).memRead a = s.memRead a := State.memRead_congr (State.set16_mem ..) a

theorem Word.add_one_ne (a : Word) : a + 1 ≠ a := by bv_omega
theorem Word.sub_one_ne_sub_two (a : Word) : a - 1 ≠ a - 2 := by bv_omega
theorem Word.sub_one_sub_one (a : Word) : a - 1 - 1 = a - 2 := by bv_omega
theorem Word.sub_two_add_one (a : Word) : a - 2 + 1 = a - 1 := by bv_omega
theorem Word.sub_two_add_two (a : Word) : a - 2 + 2 = a := by bv_omega

theorem toNat_wordOf (hi lo : Byte) : (wordOf hi lo).toNat = lo.toNat + 256 * hi.toNat := by
  unfold wordOf
  rw [BitVec.toNat_append, Nat.shiftLeft_eq, Nat.mul_comm, ← Nat.two_pow_add_eq_or_of_lt lo.isLt]
  omega

theorem toNat_hiByte (v : Word) : (hiByte v).toNat = v.toNat / 256 := by
  have := v.isLt
  unfold hiByte
  rw [BitVec.extractLsb'_toNat, Nat.shiftRight_eq_div_pow]
  omega

theorem toNat_loByte (v : Word) : (loByte v).toNat = v.toNat % 256 := by
  unfold loByte
  rw [BitVec.extractLsb'_toNat]
  rfl

@[simp] theorem hiByte_wordOf (hi lo : Byte) : hiByte (wordOf hi lo) = hi := by
  apply BitVec.eq_of_toNat_eq
  have := lo.isLt
  rw [toNat_hiByte, toNat_wordOf]
  omega

@[simp] theorem loByte_wordOf (hi lo : Byte) : loByte (wordOf hi lo) = lo := by
  apply BitVec.eq_of_toNat_eq
  have := lo.isLt
  rw [toNat_loByte, toNat_wordOf]
  omega

@[simp] theorem wordOf_hiByte_loByte (v : Word) : wordOf (hiByte v) (loByte v) = v := by
  apply BitVec.eq_of_toNat_eq
  rw [toNat_wordOf, toNat_hiByte, toNat_loByte]
  omega

/-- `Push16` (R60): SP lower by two, the two bytes below the old SP written, all else kept. -/
theorem State.push16_eq (s : State) (v : Word) :
    s.push16 v = { s with sp := s.sp - 2, mem := (s.push16 v).mem } := by
  simp [State.push16, State.push8, State.memWrite, BitVec.sub_sub]

@[simp] theorem State.push16_sp (s : State) (v : Word) : (s.push16 v).sp = s.sp - 2 := by
  rw [State.push16_eq]

theorem State.memRead_push16 (s : State) (v a : Word) :
    (s.push16 v).memRead a = if a = s.sp - 2 then loByte v else if a = s.sp - 1 then hiByte v else s.memRead a := by
  unfold State.push16 State.push8
  rw [State.memRead_memWrite]
  simp only [State.memWrite_sp, Word.sub_one_sub_one]
  split
  · rfl
  · exact State.memRead_memWrite ..

theorem State.wf_push16 {s : State} (h : s.mem.Wf) (v : Word) : (s.push16 v).mem.Wf :=
  State.wf_memWrite (s := { s.push8 (hiByte v) with sp := (s.push8 (hiByte v)).sp - 1 })
    (State.wf_memWrite (s := { s with sp := s.sp - 1 }) h _ _) _ _

/-- Everything a 16-bit write does to what memory reads as. -/
theorem State.memRead_memWrite16 (s : State) (a v b : Word) :
    (s.memWrite16 a v).memRead b = if b = a + 1 then hiByte v else if b = a then loByte v else s.memRead b := by
  unfold State.memWrite16
  rw [State.memRead_memWrite, State.memRead_memWrite]

theorem State.wf_memWrite16 {s : State} (h : s.mem.Wf) (a v : Word) : (s.memWrite16 a v).mem.Wf :=
  State.wf_memWrite (State.wf_memWrite h _ _) _ _

theorem State.wf_setX {s : State} (h : s.mem.Wf) (o : Operand8) (v : Byte) : (s.setX o v).mem.Wf := by
  cases o with
  | reg r => exact (State.set8_mem s r v).symm ▸ h
  | mHL => exact State.wf_memWrite h _ _

theorem State.wf_placeAtPc {s : State} (h : s.mem.Wf) (bytes : Byte × Byte × Byte) : (s.placeAtPc bytes).mem.Wf :=
  State.wf_memWrite (State.wf_memWrite (State.wf_memWrite h _ _) _ _) _ _

/-- A read sees an operand's write iff the operand is the memory cell. -/
theorem State.memRead_setX (s : State) (o : Operand8) (v : Byte) (a : Word) :
    (s.setX o v).memRead a = if o = .mHL ∧ a = s.hl then v else s.memRead a := by
  cases o with
  | reg r => simp [State.setX]
  | mHL => simp [State.setX, State.memRead_memWrite]

end Sys2Proof.Machine
end

