-- ==== Sys2Proof/Laws/Loader.lean ====
section
/-! SUPPORT. What the host's writes do (spec/70_reset_and_hazards.md R457, R458): of a 16-bit register, and of memory in
bulk. -/
namespace Sys2Proof.Machine

theorem State.wf_writeBytes {s : State} (h : s.mem.Wf) (addr : Word) (bytes : List Byte) :
    (s.writeBytes addr bytes).mem.Wf := by
  induction bytes generalizing s addr with
  | nil => exact h
  | cons v rest ih => exact ih (State.wf_memWrite h _ _) _

/-- Bytes written at rising addresses change memory alone. -/
theorem State.writeBytes_eq (s : State) (addr : Word) (bytes : List Byte) :
    s.writeBytes addr bytes = { s with mem := (s.writeBytes addr bytes).mem } := by
  induction bytes generalizing s addr with
  | nil => rfl
  | cons v rest ih =>
    show (s.memWrite addr v).writeBytes (addr + 1) rest = { s with mem := ((s.memWrite addr v).writeBytes (addr + 1) rest).mem }
    rw [ih]
    rfl

/-- Everything a bulk write does to what memory reads as, where it does not wrap. -/
theorem State.memRead_writeBytes (s : State) (addr : Word) (bytes : List Byte) (h : addr.toNat + bytes.length ≤ 65536)
    (a : Word) : (s.writeBytes addr bytes).memRead a =
      if hi : addr.toNat ≤ a.toNat ∧ a.toNat - addr.toNat < bytes.length then bytes[a.toNat - addr.toNat] else s.memRead a := by
  induction bytes generalizing s addr with
  | nil => rw [dif_neg (by simp)]; rfl
  | cons v rest ih =>
    rw [List.length_cons] at h
    show ((s.memWrite addr v).writeBytes (addr + 1) rest).memRead a = _
    rcases Nat.eq_zero_or_pos rest.length with h0 | h0
    · rw [List.length_eq_zero_iff] at h0
      subst h0
      show (s.memWrite addr v).memRead a = _
      rw [State.memRead_memWrite]
      by_cases ha : a = addr
      · subst ha; simp
      · have : a.toNat ≠ addr.toNat := fun hn => ha (BitVec.eq_of_toNat_eq hn)
        rw [if_neg ha, dif_neg (by simp; omega)]
    · have h1 : (addr + 1).toNat = addr.toNat + 1 := by
        rw [BitVec.toNat_add]
        exact Nat.mod_eq_of_lt (by simp; omega)
      rw [ih _ _ (by omega), State.memRead_memWrite]
      simp only [h1, List.length_cons]
      by_cases ha : a = addr
      · subst ha; simp
      · have : a.toNat ≠ addr.toNat := fun hn => ha (BitVec.eq_of_toNat_eq hn)
        by_cases hc : addr.toNat + 1 ≤ a.toNat ∧ a.toNat - (addr.toNat + 1) < rest.length
        · rw [dif_pos hc, dif_pos (by omega)]
          obtain ⟨k, hk⟩ : ∃ k, a.toNat - addr.toNat = k + 1 := ⟨a.toNat - addr.toNat - 1, by omega⟩
          simp only [hk, List.getElem_cons_succ]
          congr 1
          omega
        · rw [dif_neg hc, dif_neg (by omega), if_neg ha]

/-! ## `setReg16` -/

/-- Writing a 16-bit register changes that register alone. -/
theorem State.getReg16_setReg16 (s : State) (r q : Reg16) (v : Word) :
    (s.setReg16 r v).getReg16 q = if q = r then v else s.getReg16 q := by
  cases r <;> cases q <;> rfl

@[simp] theorem State.setReg16_a (s : State) (r : Reg16) (v : Word) : (s.setReg16 r v).a = s.a := by cases r <;> rfl
@[simp] theorem State.setReg16_f (s : State) (r : Reg16) (v : Word) : (s.setReg16 r v).f = s.f := by cases r <;> rfl
@[simp] theorem State.setReg16_b (s : State) (r : Reg16) (v : Word) : (s.setReg16 r v).b = s.b := by cases r <;> rfl
@[simp] theorem State.setReg16_c (s : State) (r : Reg16) (v : Word) : (s.setReg16 r v).c = s.c := by cases r <;> rfl
@[simp] theorem State.setReg16_d (s : State) (r : Reg16) (v : Word) : (s.setReg16 r v).d = s.d := by cases r <;> rfl
@[simp] theorem State.setReg16_e (s : State) (r : Reg16) (v : Word) : (s.setReg16 r v).e = s.e := by cases r <;> rfl
@[simp] theorem State.setReg16_h (s : State) (r : Reg16) (v : Word) : (s.setReg16 r v).h = s.h := by cases r <;> rfl
@[simp] theorem State.setReg16_l (s : State) (r : Reg16) (v : Word) : (s.setReg16 r v).l = s.l := by cases r <;> rfl
@[simp] theorem State.setReg16_mem (s : State) (r : Reg16) (v : Word) : (s.setReg16 r v).mem = s.mem := by cases r <;> rfl
@[simp] theorem State.setReg16_ports (s : State) (r : Reg16) (v : Word) : (s.setReg16 r v).ports = s.ports := by cases r <;> rfl
@[simp] theorem State.setReg16_fault (s : State) (r : Reg16) (v : Word) : (s.setReg16 r v).fault = s.fault := by cases r <;> rfl
@[simp] theorem State.setReg16_draws (s : State) (r : Reg16) (v : Word) : (s.setReg16 r v).draws = s.draws := by cases r <;> rfl

/-- A load keeps the recorded fault: only a reset clears it (R404). -/
@[simp] theorem State.loadRom_fault (s : State) (image : List Byte) : (s.loadRom image).1.fault = s.fault := by
  unfold State.loadRom
  split
  · show (s.writeBytes 0 image).fault = s.fault
    rw [State.writeBytes_eq]
  · rfl

end Sys2Proof.Machine
end

