-- ==== Sys2Proof/Laws/Operands.lean ====
section
/-! SUPPORT. What reading an operand gives after writing one (spec/10_state.md R21, R23 to R25). -/
namespace Sys2Proof.Machine

variable (s : State)

/-- Writing a register changes that register alone. -/
theorem State.get8_set8 (r q : Reg8) (v : Byte) : (s.set8 r v).get8 q = if q = r then v else s.get8 q := by
  cases r <;> cases q <;> rfl

@[simp] theorem State.set8_get8 (r : Reg8) : s.set8 r (s.get8 r) = s := by cases r <;> rfl

@[simp] theorem State.get16_set16 (p : RegQQ) (v : Word) : (s.set16 p v).get16 p = v := by
  cases p <;> exact wordOf_hiByte_loByte v

@[simp] theorem State.getDD_setDD (r : RegDD) (v : Word) : (s.setDD r v).getDD r = v := by
  cases r
  · exact s.get16_set16 .bc v
  · exact s.get16_set16 .de v
  · exact s.get16_set16 .hl v
  · rfl

theorem State.getDD_setDD_of_ne {r q : RegDD} (h : q ≠ r) (v : Word) : (s.setDD r v).getDD q = s.getDD q := by
  cases r <;> cases q <;> first | rfl | exact absurd rfl h

/-- A general register read sees no update of another field. -/
@[simp] theorem State.get8_advance (k : Word) (q : Reg8) : (s.advance k).get8 q = s.get8 q := rfl
@[simp] theorem State.get8_goto (k : Word) (q : Reg8) : (s.goto k).get8 q = s.get8 q := rfl
@[simp] theorem State.get8_memWrite (a : Word) (v : Byte) (q : Reg8) : (s.memWrite a v).get8 q = s.get8 q := by
  cases q <;> rfl
@[simp] theorem State.get8_push16 (v : Word) (q : Reg8) : (s.push16 v).get8 q = s.get8 q := by
  cases q <;> rfl
@[simp] theorem State.get8_arithFlags (r8 : Byte) (raw : Int) (sub : Bool) (q : Reg8) :
    (s.arithFlags r8 raw sub).get8 q = s.get8 q := by cases q <;> simp [State.get8]
@[simp] theorem State.get8_logicFlags (r8 : Byte) (q : Reg8) : (s.logicFlags r8).get8 q = s.get8 q := by
  cases q <;> rfl
@[simp] theorem State.get8_carryFlags (c : Bool) (q : Reg8) : (s.carryFlags c).get8 q = s.get8 q := by cases q <;> rfl
@[simp] theorem State.get8_drawHN (q : Reg8) : s.drawHN.get8 q = s.get8 q := by cases q <;> rfl

@[simp] theorem aluLength_op (o : Operand8) : aluLength (.op o) = 1 := rfl
@[simp] theorem aluLength_imm (n : Byte) : aluLength (.imm n) = 2 := rfl

end Sys2Proof.Machine
end

