-- ==== Sys2Proof/Laws/PerInstr.lean ====
section
/-! SUPPORT. Laws of the instructions as syntax, one lemma per constructor. -/
namespace Sys2Proof.Laws.EncodedLength

/-- The length of an instruction's encoding is what its opcode byte alone says (spec/30_encoding.md R83). -/
def Statement (i : Instr) : Prop := i.length = lengthOf ((encode i).headD 0)

theorem nop : Statement .nop := show 1 = lengthOf 0x00 by decide
theorem ldBC_nn (nn : Word) : Statement (.ldBC_nn nn) := show 3 = lengthOf 0x01 by decide
theorem ldmBC_A : Statement .ldmBC_A := show 1 = lengthOf 0x02 by decide
theorem incBC : Statement .incBC := show 1 = lengthOf 0x03 by decide
theorem incB : Statement .incB := show 1 = lengthOf 0x04 by decide
theorem decB : Statement .decB := show 1 = lengthOf 0x05 by decide
theorem ldB_n (n : Byte) : Statement (.ldB_n n) := show 2 = lengthOf 0x06 by decide
theorem rlca : Statement .rlca := show 1 = lengthOf 0x07 by decide
theorem exAF_AF : Statement .exAF_AF := show 1 = lengthOf 0x08 by decide
theorem addHL_BC : Statement .addHL_BC := show 1 = lengthOf 0x09 by decide
theorem ldA_mBC : Statement .ldA_mBC := show 1 = lengthOf 0x0A by decide
theorem decBC : Statement .decBC := show 1 = lengthOf 0x0B by decide
theorem incC : Statement .incC := show 1 = lengthOf 0x0C by decide
theorem decC : Statement .decC := show 1 = lengthOf 0x0D by decide
theorem ldC_n (n : Byte) : Statement (.ldC_n n) := show 2 = lengthOf 0x0E by decide
theorem rrca : Statement .rrca := show 1 = lengthOf 0x0F by decide
theorem djnz_e (e : Int) : Statement (.djnz_e e) := show 2 = lengthOf 0x10 by decide
theorem ldDE_nn (nn : Word) : Statement (.ldDE_nn nn) := show 3 = lengthOf 0x11 by decide
theorem ldmDE_A : Statement .ldmDE_A := show 1 = lengthOf 0x12 by decide
theorem incDE : Statement .incDE := show 1 = lengthOf 0x13 by decide
theorem incD : Statement .incD := show 1 = lengthOf 0x14 by decide
theorem decD : Statement .decD := show 1 = lengthOf 0x15 by decide
theorem ldD_n (n : Byte) : Statement (.ldD_n n) := show 2 = lengthOf 0x16 by decide
theorem rla : Statement .rla := show 1 = lengthOf 0x17 by decide
theorem jr_e (e : Int) : Statement (.jr_e e) := show 2 = lengthOf 0x18 by decide
theorem addHL_DE : Statement .addHL_DE := show 1 = lengthOf 0x19 by decide
theorem ldA_mDE : Statement .ldA_mDE := show 1 = lengthOf 0x1A by decide
theorem decDE : Statement .decDE := show 1 = lengthOf 0x1B by decide
theorem incE : Statement .incE := show 1 = lengthOf 0x1C by decide
theorem decE : Statement .decE := show 1 = lengthOf 0x1D by decide
theorem ldE_n (n : Byte) : Statement (.ldE_n n) := show 2 = lengthOf 0x1E by decide
theorem rra : Statement .rra := show 1 = lengthOf 0x1F by decide
theorem jrNZ_e (e : Int) : Statement (.jrNZ_e e) := show 2 = lengthOf 0x20 by decide
theorem ldHL_nn (nn : Word) : Statement (.ldHL_nn nn) := show 3 = lengthOf 0x21 by decide
theorem ldmnn_HL (nn : Word) : Statement (.ldmnn_HL nn) := show 3 = lengthOf 0x22 by decide
theorem incHL : Statement .incHL := show 1 = lengthOf 0x23 by decide
theorem incH : Statement .incH := show 1 = lengthOf 0x24 by decide
theorem decH : Statement .decH := show 1 = lengthOf 0x25 by decide
theorem ldH_n (n : Byte) : Statement (.ldH_n n) := show 2 = lengthOf 0x26 by decide
theorem daa : Statement .daa := show 1 = lengthOf 0x27 by decide
theorem jrZ_e (e : Int) : Statement (.jrZ_e e) := show 2 = lengthOf 0x28 by decide
theorem addHL_HL : Statement .addHL_HL := show 1 = lengthOf 0x29 by decide
theorem ldHL_mnn (nn : Word) : Statement (.ldHL_mnn nn) := show 3 = lengthOf 0x2A by decide
theorem decHL : Statement .decHL := show 1 = lengthOf 0x2B by decide
theorem incL : Statement .incL := show 1 = lengthOf 0x2C by decide
theorem decL : Statement .decL := show 1 = lengthOf 0x2D by decide
theorem ldL_n (n : Byte) : Statement (.ldL_n n) := show 2 = lengthOf 0x2E by decide
theorem cpl : Statement .cpl := show 1 = lengthOf 0x2F by decide
theorem jrNC_e (e : Int) : Statement (.jrNC_e e) := show 2 = lengthOf 0x30 by decide
theorem ldSP_nn (nn : Word) : Statement (.ldSP_nn nn) := show 3 = lengthOf 0x31 by decide
theorem ldmnn_A (nn : Word) : Statement (.ldmnn_A nn) := show 3 = lengthOf 0x32 by decide
theorem incSP : Statement .incSP := show 1 = lengthOf 0x33 by decide
theorem incmHL : Statement .incmHL := show 1 = lengthOf 0x34 by decide
theorem decmHL : Statement .decmHL := show 1 = lengthOf 0x35 by decide
theorem ldmHL_n (n : Byte) : Statement (.ldmHL_n n) := show 2 = lengthOf 0x36 by decide
theorem scf : Statement .scf := show 1 = lengthOf 0x37 by decide
theorem jrC_e (e : Int) : Statement (.jrC_e e) := show 2 = lengthOf 0x38 by decide
theorem addHL_SP : Statement .addHL_SP := show 1 = lengthOf 0x39 by decide
theorem ldA_mnn (nn : Word) : Statement (.ldA_mnn nn) := show 3 = lengthOf 0x3A by decide
theorem decSP : Statement .decSP := show 1 = lengthOf 0x3B by decide
theorem incA : Statement .incA := show 1 = lengthOf 0x3C by decide
theorem decA : Statement .decA := show 1 = lengthOf 0x3D by decide
theorem ldA_n (n : Byte) : Statement (.ldA_n n) := show 2 = lengthOf 0x3E by decide
theorem ccf : Statement .ccf := show 1 = lengthOf 0x3F by decide
theorem ldB_B : Statement .ldB_B := show 1 = lengthOf 0x40 by decide
theorem ldB_C : Statement .ldB_C := show 1 = lengthOf 0x41 by decide
theorem ldB_D : Statement .ldB_D := show 1 = lengthOf 0x42 by decide
theorem ldB_E : Statement .ldB_E := show 1 = lengthOf 0x43 by decide
theorem ldB_H : Statement .ldB_H := show 1 = lengthOf 0x44 by decide
theorem ldB_L : Statement .ldB_L := show 1 = lengthOf 0x45 by decide
theorem ldB_mHL : Statement .ldB_mHL := show 1 = lengthOf 0x46 by decide
theorem ldB_A : Statement .ldB_A := show 1 = lengthOf 0x47 by decide
theorem ldC_B : Statement .ldC_B := show 1 = lengthOf 0x48 by decide
theorem ldC_C : Statement .ldC_C := show 1 = lengthOf 0x49 by decide
theorem ldC_D : Statement .ldC_D := show 1 = lengthOf 0x4A by decide
theorem ldC_E : Statement .ldC_E := show 1 = lengthOf 0x4B by decide
theorem ldC_H : Statement .ldC_H := show 1 = lengthOf 0x4C by decide
theorem ldC_L : Statement .ldC_L := show 1 = lengthOf 0x4D by decide
theorem ldC_mHL : Statement .ldC_mHL := show 1 = lengthOf 0x4E by decide
theorem ldC_A : Statement .ldC_A := show 1 = lengthOf 0x4F by decide
theorem ldD_B : Statement .ldD_B := show 1 = lengthOf 0x50 by decide
theorem ldD_C : Statement .ldD_C := show 1 = lengthOf 0x51 by decide
theorem ldD_D : Statement .ldD_D := show 1 = lengthOf 0x52 by decide
theorem ldD_E : Statement .ldD_E := show 1 = lengthOf 0x53 by decide
theorem ldD_H : Statement .ldD_H := show 1 = lengthOf 0x54 by decide
theorem ldD_L : Statement .ldD_L := show 1 = lengthOf 0x55 by decide
theorem ldD_mHL : Statement .ldD_mHL := show 1 = lengthOf 0x56 by decide
theorem ldD_A : Statement .ldD_A := show 1 = lengthOf 0x57 by decide
theorem ldE_B : Statement .ldE_B := show 1 = lengthOf 0x58 by decide
theorem ldE_C : Statement .ldE_C := show 1 = lengthOf 0x59 by decide
theorem ldE_D : Statement .ldE_D := show 1 = lengthOf 0x5A by decide
theorem ldE_E : Statement .ldE_E := show 1 = lengthOf 0x5B by decide
theorem ldE_H : Statement .ldE_H := show 1 = lengthOf 0x5C by decide
theorem ldE_L : Statement .ldE_L := show 1 = lengthOf 0x5D by decide
theorem ldE_mHL : Statement .ldE_mHL := show 1 = lengthOf 0x5E by decide
theorem ldE_A : Statement .ldE_A := show 1 = lengthOf 0x5F by decide
theorem ldH_B : Statement .ldH_B := show 1 = lengthOf 0x60 by decide
theorem ldH_C : Statement .ldH_C := show 1 = lengthOf 0x61 by decide
theorem ldH_D : Statement .ldH_D := show 1 = lengthOf 0x62 by decide
theorem ldH_E : Statement .ldH_E := show 1 = lengthOf 0x63 by decide
theorem ldH_H : Statement .ldH_H := show 1 = lengthOf 0x64 by decide
theorem ldH_L : Statement .ldH_L := show 1 = lengthOf 0x65 by decide
theorem ldH_mHL : Statement .ldH_mHL := show 1 = lengthOf 0x66 by decide
theorem ldH_A : Statement .ldH_A := show 1 = lengthOf 0x67 by decide
theorem ldL_B : Statement .ldL_B := show 1 = lengthOf 0x68 by decide
theorem ldL_C : Statement .ldL_C := show 1 = lengthOf 0x69 by decide
theorem ldL_D : Statement .ldL_D := show 1 = lengthOf 0x6A by decide
theorem ldL_E : Statement .ldL_E := show 1 = lengthOf 0x6B by decide
theorem ldL_H : Statement .ldL_H := show 1 = lengthOf 0x6C by decide
theorem ldL_L : Statement .ldL_L := show 1 = lengthOf 0x6D by decide
theorem ldL_mHL : Statement .ldL_mHL := show 1 = lengthOf 0x6E by decide
theorem ldL_A : Statement .ldL_A := show 1 = lengthOf 0x6F by decide
theorem ldmHL_B : Statement .ldmHL_B := show 1 = lengthOf 0x70 by decide
theorem ldmHL_C : Statement .ldmHL_C := show 1 = lengthOf 0x71 by decide
theorem ldmHL_D : Statement .ldmHL_D := show 1 = lengthOf 0x72 by decide
theorem ldmHL_E : Statement .ldmHL_E := show 1 = lengthOf 0x73 by decide
theorem ldmHL_H : Statement .ldmHL_H := show 1 = lengthOf 0x74 by decide
theorem ldmHL_L : Statement .ldmHL_L := show 1 = lengthOf 0x75 by decide
theorem halt : Statement .halt := show 1 = lengthOf 0x76 by decide
theorem ldmHL_A : Statement .ldmHL_A := show 1 = lengthOf 0x77 by decide
theorem ldA_B : Statement .ldA_B := show 1 = lengthOf 0x78 by decide
theorem ldA_C : Statement .ldA_C := show 1 = lengthOf 0x79 by decide
theorem ldA_D : Statement .ldA_D := show 1 = lengthOf 0x7A by decide
theorem ldA_E : Statement .ldA_E := show 1 = lengthOf 0x7B by decide
theorem ldA_H : Statement .ldA_H := show 1 = lengthOf 0x7C by decide
theorem ldA_L : Statement .ldA_L := show 1 = lengthOf 0x7D by decide
theorem ldA_mHL : Statement .ldA_mHL := show 1 = lengthOf 0x7E by decide
theorem ldA_A : Statement .ldA_A := show 1 = lengthOf 0x7F by decide
theorem addA_B : Statement .addA_B := show 1 = lengthOf 0x80 by decide
theorem addA_C : Statement .addA_C := show 1 = lengthOf 0x81 by decide
theorem addA_D : Statement .addA_D := show 1 = lengthOf 0x82 by decide
theorem addA_E : Statement .addA_E := show 1 = lengthOf 0x83 by decide
theorem addA_H : Statement .addA_H := show 1 = lengthOf 0x84 by decide
theorem addA_L : Statement .addA_L := show 1 = lengthOf 0x85 by decide
theorem addA_mHL : Statement .addA_mHL := show 1 = lengthOf 0x86 by decide
theorem addA_A : Statement .addA_A := show 1 = lengthOf 0x87 by decide
theorem adcA_B : Statement .adcA_B := show 1 = lengthOf 0x88 by decide
theorem adcA_C : Statement .adcA_C := show 1 = lengthOf 0x89 by decide
theorem adcA_D : Statement .adcA_D := show 1 = lengthOf 0x8A by decide
theorem adcA_E : Statement .adcA_E := show 1 = lengthOf 0x8B by decide
theorem adcA_H : Statement .adcA_H := show 1 = lengthOf 0x8C by decide
theorem adcA_L : Statement .adcA_L := show 1 = lengthOf 0x8D by decide
theorem adcA_mHL : Statement .adcA_mHL := show 1 = lengthOf 0x8E by decide
theorem adcA_A : Statement .adcA_A := show 1 = lengthOf 0x8F by decide
theorem subB : Statement .subB := show 1 = lengthOf 0x90 by decide
theorem subC : Statement .subC := show 1 = lengthOf 0x91 by decide
theorem subD : Statement .subD := show 1 = lengthOf 0x92 by decide
theorem subE : Statement .subE := show 1 = lengthOf 0x93 by decide
theorem subH : Statement .subH := show 1 = lengthOf 0x94 by decide
theorem subL : Statement .subL := show 1 = lengthOf 0x95 by decide
theorem submHL : Statement .submHL := show 1 = lengthOf 0x96 by decide
theorem subA : Statement .subA := show 1 = lengthOf 0x97 by decide
theorem sbcA_B : Statement .sbcA_B := show 1 = lengthOf 0x98 by decide
theorem sbcA_C : Statement .sbcA_C := show 1 = lengthOf 0x99 by decide
theorem sbcA_D : Statement .sbcA_D := show 1 = lengthOf 0x9A by decide
theorem sbcA_E : Statement .sbcA_E := show 1 = lengthOf 0x9B by decide
theorem sbcA_H : Statement .sbcA_H := show 1 = lengthOf 0x9C by decide
theorem sbcA_L : Statement .sbcA_L := show 1 = lengthOf 0x9D by decide
theorem sbcA_mHL : Statement .sbcA_mHL := show 1 = lengthOf 0x9E by decide
theorem sbcA_A : Statement .sbcA_A := show 1 = lengthOf 0x9F by decide
theorem andB : Statement .andB := show 1 = lengthOf 0xA0 by decide
theorem andC : Statement .andC := show 1 = lengthOf 0xA1 by decide
theorem andD : Statement .andD := show 1 = lengthOf 0xA2 by decide
theorem andE : Statement .andE := show 1 = lengthOf 0xA3 by decide
theorem andH : Statement .andH := show 1 = lengthOf 0xA4 by decide
theorem andL : Statement .andL := show 1 = lengthOf 0xA5 by decide
theorem andmHL : Statement .andmHL := show 1 = lengthOf 0xA6 by decide
theorem andA : Statement .andA := show 1 = lengthOf 0xA7 by decide
theorem xorB : Statement .xorB := show 1 = lengthOf 0xA8 by decide
theorem xorC : Statement .xorC := show 1 = lengthOf 0xA9 by decide
theorem xorD : Statement .xorD := show 1 = lengthOf 0xAA by decide
theorem xorE : Statement .xorE := show 1 = lengthOf 0xAB by decide
theorem xorH : Statement .xorH := show 1 = lengthOf 0xAC by decide
theorem xorL : Statement .xorL := show 1 = lengthOf 0xAD by decide
theorem xormHL : Statement .xormHL := show 1 = lengthOf 0xAE by decide
theorem xorA : Statement .xorA := show 1 = lengthOf 0xAF by decide
theorem orB : Statement .orB := show 1 = lengthOf 0xB0 by decide
theorem orC : Statement .orC := show 1 = lengthOf 0xB1 by decide
theorem orD : Statement .orD := show 1 = lengthOf 0xB2 by decide
theorem orE : Statement .orE := show 1 = lengthOf 0xB3 by decide
theorem orH : Statement .orH := show 1 = lengthOf 0xB4 by decide
theorem orL : Statement .orL := show 1 = lengthOf 0xB5 by decide
theorem ormHL : Statement .ormHL := show 1 = lengthOf 0xB6 by decide
theorem orA : Statement .orA := show 1 = lengthOf 0xB7 by decide
theorem cpB : Statement .cpB := show 1 = lengthOf 0xB8 by decide
theorem cpC : Statement .cpC := show 1 = lengthOf 0xB9 by decide
theorem cpD : Statement .cpD := show 1 = lengthOf 0xBA by decide
theorem cpE : Statement .cpE := show 1 = lengthOf 0xBB by decide
theorem cpH : Statement .cpH := show 1 = lengthOf 0xBC by decide
theorem cpL : Statement .cpL := show 1 = lengthOf 0xBD by decide
theorem cpmHL : Statement .cpmHL := show 1 = lengthOf 0xBE by decide
theorem cpA : Statement .cpA := show 1 = lengthOf 0xBF by decide
theorem retNZ : Statement .retNZ := show 1 = lengthOf 0xC0 by decide
theorem popBC : Statement .popBC := show 1 = lengthOf 0xC1 by decide
theorem jpNZ_nn (nn : Word) : Statement (.jpNZ_nn nn) := show 3 = lengthOf 0xC2 by decide
theorem jp_nn (nn : Word) : Statement (.jp_nn nn) := show 3 = lengthOf 0xC3 by decide
theorem callNZ_nn (nn : Word) : Statement (.callNZ_nn nn) := show 3 = lengthOf 0xC4 by decide
theorem pushBC : Statement .pushBC := show 1 = lengthOf 0xC5 by decide
theorem addA_n (n : Byte) : Statement (.addA_n n) := show 2 = lengthOf 0xC6 by decide
theorem rst00 : Statement .rst00 := show 1 = lengthOf 0xC7 by decide
theorem retZ : Statement .retZ := show 1 = lengthOf 0xC8 by decide
theorem ret : Statement .ret := show 1 = lengthOf 0xC9 by decide
theorem jpZ_nn (nn : Word) : Statement (.jpZ_nn nn) := show 3 = lengthOf 0xCA by decide
theorem cbPrefix : Statement .cbPrefix := show 1 = lengthOf 0xCB by decide
theorem callZ_nn (nn : Word) : Statement (.callZ_nn nn) := show 3 = lengthOf 0xCC by decide
theorem call_nn (nn : Word) : Statement (.call_nn nn) := show 3 = lengthOf 0xCD by decide
theorem adcA_n (n : Byte) : Statement (.adcA_n n) := show 2 = lengthOf 0xCE by decide
theorem rst08 : Statement .rst08 := show 1 = lengthOf 0xCF by decide
theorem retNC : Statement .retNC := show 1 = lengthOf 0xD0 by decide
theorem popDE : Statement .popDE := show 1 = lengthOf 0xD1 by decide
theorem jpNC_nn (nn : Word) : Statement (.jpNC_nn nn) := show 3 = lengthOf 0xD2 by decide
theorem outmn_A (n : Byte) : Statement (.outmn_A n) := show 2 = lengthOf 0xD3 by decide
theorem callNC_nn (nn : Word) : Statement (.callNC_nn nn) := show 3 = lengthOf 0xD4 by decide
theorem pushDE : Statement .pushDE := show 1 = lengthOf 0xD5 by decide
theorem sub_n (n : Byte) : Statement (.sub_n n) := show 2 = lengthOf 0xD6 by decide
theorem rst10 : Statement .rst10 := show 1 = lengthOf 0xD7 by decide
theorem retC : Statement .retC := show 1 = lengthOf 0xD8 by decide
theorem exx : Statement .exx := show 1 = lengthOf 0xD9 by decide
theorem jpC_nn (nn : Word) : Statement (.jpC_nn nn) := show 3 = lengthOf 0xDA by decide
theorem inA_mn (n : Byte) : Statement (.inA_mn n) := show 2 = lengthOf 0xDB by decide
theorem callC_nn (nn : Word) : Statement (.callC_nn nn) := show 3 = lengthOf 0xDC by decide
theorem ddPrefix : Statement .ddPrefix := show 1 = lengthOf 0xDD by decide
theorem sbcA_n (n : Byte) : Statement (.sbcA_n n) := show 2 = lengthOf 0xDE by decide
theorem rst18 : Statement .rst18 := show 1 = lengthOf 0xDF by decide
theorem retPO : Statement .retPO := show 1 = lengthOf 0xE0 by decide
theorem popHL : Statement .popHL := show 1 = lengthOf 0xE1 by decide
theorem jpPO_nn (nn : Word) : Statement (.jpPO_nn nn) := show 3 = lengthOf 0xE2 by decide
theorem exmSP_HL : Statement .exmSP_HL := show 1 = lengthOf 0xE3 by decide
theorem callPO_nn (nn : Word) : Statement (.callPO_nn nn) := show 3 = lengthOf 0xE4 by decide
theorem pushHL : Statement .pushHL := show 1 = lengthOf 0xE5 by decide
theorem and_n (n : Byte) : Statement (.and_n n) := show 2 = lengthOf 0xE6 by decide
theorem rst20 : Statement .rst20 := show 1 = lengthOf 0xE7 by decide
theorem retPE : Statement .retPE := show 1 = lengthOf 0xE8 by decide
theorem jpHL : Statement .jpHL := show 1 = lengthOf 0xE9 by decide
theorem jpPE_nn (nn : Word) : Statement (.jpPE_nn nn) := show 3 = lengthOf 0xEA by decide
theorem exDE_HL : Statement .exDE_HL := show 1 = lengthOf 0xEB by decide
theorem callPE_nn (nn : Word) : Statement (.callPE_nn nn) := show 3 = lengthOf 0xEC by decide
theorem edPrefix : Statement .edPrefix := show 1 = lengthOf 0xED by decide
theorem xor_n (n : Byte) : Statement (.xor_n n) := show 2 = lengthOf 0xEE by decide
theorem rst28 : Statement .rst28 := show 1 = lengthOf 0xEF by decide
theorem retP : Statement .retP := show 1 = lengthOf 0xF0 by decide
theorem popAF : Statement .popAF := show 1 = lengthOf 0xF1 by decide
theorem jpP_nn (nn : Word) : Statement (.jpP_nn nn) := show 3 = lengthOf 0xF2 by decide
theorem di : Statement .di := show 1 = lengthOf 0xF3 by decide
theorem callP_nn (nn : Word) : Statement (.callP_nn nn) := show 3 = lengthOf 0xF4 by decide
theorem pushAF : Statement .pushAF := show 1 = lengthOf 0xF5 by decide
theorem or_n (n : Byte) : Statement (.or_n n) := show 2 = lengthOf 0xF6 by decide
theorem rst30 : Statement .rst30 := show 1 = lengthOf 0xF7 by decide
theorem retM : Statement .retM := show 1 = lengthOf 0xF8 by decide
theorem ldSP_HL : Statement .ldSP_HL := show 1 = lengthOf 0xF9 by decide
theorem jpM_nn (nn : Word) : Statement (.jpM_nn nn) := show 3 = lengthOf 0xFA by decide
theorem ei : Statement .ei := show 1 = lengthOf 0xFB by decide
theorem callM_nn (nn : Word) : Statement (.callM_nn nn) := show 3 = lengthOf 0xFC by decide
theorem fdPrefix : Statement .fdPrefix := show 1 = lengthOf 0xFD by decide
theorem cp_n (n : Byte) : Statement (.cp_n n) := show 2 = lengthOf 0xFE by decide
theorem rst38 : Statement .rst38 := show 1 = lengthOf 0xFF by decide

end Sys2Proof.Laws.EncodedLength
end

