-- ==== Sys2Proof/Laws/Sequencer.lean ====
section
/-! SUPPORT. Everything each control-flow primitive (spec/41_control_flow.md R120 to R124) and each operation on a stack word
can do, as one equation. -/
namespace Sys2Proof.Machine

variable (s : State)

/-- `jump` (R120) writes pc alone. -/
theorem State.jump_eq (c : Bool) (target len : Word) :
    s.jump c target len = { s with pc := if c then target else s.pc + len } := by cases c <;> rfl

/-- `relativeJump` (R121) writes pc alone. -/
theorem State.relativeJump_eq (c : Bool) (e : Int) (len : Word) :
    s.relativeJump c e len = { s with pc := if c then trunc16 ((s.pc.toNat : Int) + 2 + e) else s.pc + len } := by
  cases c <;> rfl

/-- A taken `call` (R122). -/
theorem State.call_true (nn : Word) :
    s.call true nn = { s with sp := s.sp - 2, pc := nn, mem := (s.push16 (s.pc + 3)).mem } := by
  show (s.push16 (s.pc + 3)).goto nn = _
  rw [State.push16_eq]
  rfl

/-- A `call` not taken (R122). -/
theorem State.call_false (nn : Word) : s.call false nn = { s with pc := s.pc + 3 } := rfl

/-- A taken `ret` (R123). -/
theorem State.ret_true : s.ret true = { s with pc := s.memRead16 s.sp, sp := s.sp + 2 } := rfl

/-- A `ret` not taken (R123). -/
theorem State.ret_false : s.ret false = { s with pc := s.pc + 3 } := rfl

/-- `reset(vector)` (R124). -/
theorem State.restart_eq (vector : Word) :
    s.restart vector = { s with sp := s.sp - 2, pc := vector, mem := (s.push16 (s.pc + 1)).mem } := by
  show (s.push16 (s.pc + 1)).goto vector = _
  rw [State.push16_eq]
  rfl

/-- The two cells below SP after a push, the high byte above the low one (R60). -/
theorem State.memRead_push16_hi (v : Word) : (s.push16 v).memRead (s.sp - 1) = hiByte v := by
  rw [State.memRead_push16, if_neg (Word.sub_one_ne_sub_two _), if_pos rfl]

theorem State.memRead_push16_lo (v : Word) : (s.push16 v).memRead (s.sp - 2) = loByte v := by
  rw [State.memRead_push16, if_pos rfl]

theorem State.memRead_push16_of_ne (v : Word) {a : Word} (h1 : a ≠ s.sp - 1) (h2 : a ≠ s.sp - 2) :
    (s.push16 v).memRead a = s.memRead a := by
  rw [State.memRead_push16, if_neg h2, if_neg h1]

/-- `exchangeSP` (R247) on memory: L at SP, H at SP + 1. -/
theorem State.memRead_exchangeSP (a : Word) :
    (exchangeSP s).memRead a = if a = s.sp + 1 then s.h else if a = s.sp then s.l else s.memRead a := by
  unfold exchangeSP
  rw [State.memRead_set16, State.memRead_memWrite, State.memRead_memWrite]

/-! ## One lemma per field per primitive -/

@[simp] theorem State.jump_a (c : Bool) (target len : Word) : (s.jump c target len).a = s.a := by cases c <;> rfl
@[simp] theorem State.jump_f (c : Bool) (target len : Word) : (s.jump c target len).f = s.f := by cases c <;> rfl
@[simp] theorem State.jump_b (c : Bool) (target len : Word) : (s.jump c target len).b = s.b := by cases c <;> rfl
@[simp] theorem State.jump_c (c : Bool) (target len : Word) : (s.jump c target len).c = s.c := by cases c <;> rfl
@[simp] theorem State.jump_d (c : Bool) (target len : Word) : (s.jump c target len).d = s.d := by cases c <;> rfl
@[simp] theorem State.jump_e (c : Bool) (target len : Word) : (s.jump c target len).e = s.e := by cases c <;> rfl
@[simp] theorem State.jump_h (c : Bool) (target len : Word) : (s.jump c target len).h = s.h := by cases c <;> rfl
@[simp] theorem State.jump_l (c : Bool) (target len : Word) : (s.jump c target len).l = s.l := by cases c <;> rfl
@[simp] theorem State.jump_ix (c : Bool) (target len : Word) : (s.jump c target len).ix = s.ix := by cases c <;> rfl
@[simp] theorem State.jump_iy (c : Bool) (target len : Word) : (s.jump c target len).iy = s.iy := by cases c <;> rfl
@[simp] theorem State.jump_ports (c : Bool) (target len : Word) : (s.jump c target len).ports = s.ports := by cases c <;> rfl
@[simp] theorem State.jump_fault (c : Bool) (target len : Word) : (s.jump c target len).fault = s.fault := by cases c <;> rfl
@[simp] theorem State.jump_draws (c : Bool) (target len : Word) : (s.jump c target len).draws = s.draws := by cases c <;> rfl
@[simp] theorem State.jump_sp (c : Bool) (target len : Word) : (s.jump c target len).sp = s.sp := by cases c <;> rfl
@[simp] theorem State.jump_mem (c : Bool) (target len : Word) : (s.jump c target len).mem = s.mem := by cases c <;> rfl

@[simp] theorem State.relativeJump_a (c : Bool) (e : Int) (len : Word) : (s.relativeJump c e len).a = s.a := by cases c <;> rfl
@[simp] theorem State.relativeJump_f (c : Bool) (e : Int) (len : Word) : (s.relativeJump c e len).f = s.f := by cases c <;> rfl
@[simp] theorem State.relativeJump_b (c : Bool) (e : Int) (len : Word) : (s.relativeJump c e len).b = s.b := by cases c <;> rfl
@[simp] theorem State.relativeJump_c (c : Bool) (e : Int) (len : Word) : (s.relativeJump c e len).c = s.c := by cases c <;> rfl
@[simp] theorem State.relativeJump_d (c : Bool) (e : Int) (len : Word) : (s.relativeJump c e len).d = s.d := by cases c <;> rfl
@[simp] theorem State.relativeJump_e (c : Bool) (e : Int) (len : Word) : (s.relativeJump c e len).e = s.e := by cases c <;> rfl
@[simp] theorem State.relativeJump_h (c : Bool) (e : Int) (len : Word) : (s.relativeJump c e len).h = s.h := by cases c <;> rfl
@[simp] theorem State.relativeJump_l (c : Bool) (e : Int) (len : Word) : (s.relativeJump c e len).l = s.l := by cases c <;> rfl
@[simp] theorem State.relativeJump_ix (c : Bool) (e : Int) (len : Word) : (s.relativeJump c e len).ix = s.ix := by cases c <;> rfl
@[simp] theorem State.relativeJump_iy (c : Bool) (e : Int) (len : Word) : (s.relativeJump c e len).iy = s.iy := by cases c <;> rfl
@[simp] theorem State.relativeJump_ports (c : Bool) (e : Int) (len : Word) : (s.relativeJump c e len).ports = s.ports := by cases c <;> rfl
@[simp] theorem State.relativeJump_fault (c : Bool) (e : Int) (len : Word) : (s.relativeJump c e len).fault = s.fault := by cases c <;> rfl
@[simp] theorem State.relativeJump_draws (c : Bool) (e : Int) (len : Word) : (s.relativeJump c e len).draws = s.draws := by cases c <;> rfl
@[simp] theorem State.relativeJump_sp (c : Bool) (e : Int) (len : Word) : (s.relativeJump c e len).sp = s.sp := by cases c <;> rfl
@[simp] theorem State.relativeJump_mem (c : Bool) (e : Int) (len : Word) : (s.relativeJump c e len).mem = s.mem := by cases c <;> rfl

@[simp] theorem State.call_a (c : Bool) (nn : Word) : (s.call c nn).a = s.a := by cases c <;> rfl
@[simp] theorem State.call_f (c : Bool) (nn : Word) : (s.call c nn).f = s.f := by cases c <;> rfl
@[simp] theorem State.call_b (c : Bool) (nn : Word) : (s.call c nn).b = s.b := by cases c <;> rfl
@[simp] theorem State.call_c (c : Bool) (nn : Word) : (s.call c nn).c = s.c := by cases c <;> rfl
@[simp] theorem State.call_d (c : Bool) (nn : Word) : (s.call c nn).d = s.d := by cases c <;> rfl
@[simp] theorem State.call_e (c : Bool) (nn : Word) : (s.call c nn).e = s.e := by cases c <;> rfl
@[simp] theorem State.call_h (c : Bool) (nn : Word) : (s.call c nn).h = s.h := by cases c <;> rfl
@[simp] theorem State.call_l (c : Bool) (nn : Word) : (s.call c nn).l = s.l := by cases c <;> rfl
@[simp] theorem State.call_ix (c : Bool) (nn : Word) : (s.call c nn).ix = s.ix := by cases c <;> rfl
@[simp] theorem State.call_iy (c : Bool) (nn : Word) : (s.call c nn).iy = s.iy := by cases c <;> rfl
@[simp] theorem State.call_ports (c : Bool) (nn : Word) : (s.call c nn).ports = s.ports := by cases c <;> rfl
@[simp] theorem State.call_fault (c : Bool) (nn : Word) : (s.call c nn).fault = s.fault := by cases c <;> rfl
@[simp] theorem State.call_draws (c : Bool) (nn : Word) : (s.call c nn).draws = s.draws := by cases c <;> rfl

@[simp] theorem State.ret_a (c : Bool) : (s.ret c).a = s.a := by cases c <;> rfl
@[simp] theorem State.ret_f (c : Bool) : (s.ret c).f = s.f := by cases c <;> rfl
@[simp] theorem State.ret_b (c : Bool) : (s.ret c).b = s.b := by cases c <;> rfl
@[simp] theorem State.ret_c (c : Bool) : (s.ret c).c = s.c := by cases c <;> rfl
@[simp] theorem State.ret_d (c : Bool) : (s.ret c).d = s.d := by cases c <;> rfl
@[simp] theorem State.ret_e (c : Bool) : (s.ret c).e = s.e := by cases c <;> rfl
@[simp] theorem State.ret_h (c : Bool) : (s.ret c).h = s.h := by cases c <;> rfl
@[simp] theorem State.ret_l (c : Bool) : (s.ret c).l = s.l := by cases c <;> rfl
@[simp] theorem State.ret_ix (c : Bool) : (s.ret c).ix = s.ix := by cases c <;> rfl
@[simp] theorem State.ret_iy (c : Bool) : (s.ret c).iy = s.iy := by cases c <;> rfl
@[simp] theorem State.ret_ports (c : Bool) : (s.ret c).ports = s.ports := by cases c <;> rfl
@[simp] theorem State.ret_fault (c : Bool) : (s.ret c).fault = s.fault := by cases c <;> rfl
@[simp] theorem State.ret_draws (c : Bool) : (s.ret c).draws = s.draws := by cases c <;> rfl
@[simp] theorem State.ret_mem (c : Bool) : (s.ret c).mem = s.mem := by cases c <;> rfl

@[simp] theorem State.restart_a (vector : Word) : (s.restart vector).a = s.a := rfl
@[simp] theorem State.restart_f (vector : Word) : (s.restart vector).f = s.f := rfl
@[simp] theorem State.restart_b (vector : Word) : (s.restart vector).b = s.b := rfl
@[simp] theorem State.restart_c (vector : Word) : (s.restart vector).c = s.c := rfl
@[simp] theorem State.restart_d (vector : Word) : (s.restart vector).d = s.d := rfl
@[simp] theorem State.restart_e (vector : Word) : (s.restart vector).e = s.e := rfl
@[simp] theorem State.restart_h (vector : Word) : (s.restart vector).h = s.h := rfl
@[simp] theorem State.restart_l (vector : Word) : (s.restart vector).l = s.l := rfl
@[simp] theorem State.restart_ix (vector : Word) : (s.restart vector).ix = s.ix := rfl
@[simp] theorem State.restart_iy (vector : Word) : (s.restart vector).iy = s.iy := rfl
@[simp] theorem State.restart_ports (vector : Word) : (s.restart vector).ports = s.ports := rfl
@[simp] theorem State.restart_fault (vector : Word) : (s.restart vector).fault = s.fault := rfl
@[simp] theorem State.restart_draws (vector : Word) : (s.restart vector).draws = s.draws := rfl

@[simp] theorem State.get8_jump (c : Bool) (target len : Word) (q : Reg8) : (s.jump c target len).get8 q = s.get8 q := by cases q <;> simp [State.get8]
@[simp] theorem State.get8_relativeJump (c : Bool) (e : Int) (len : Word) (q : Reg8) : (s.relativeJump c e len).get8 q = s.get8 q := by cases q <;> simp [State.get8]
@[simp] theorem State.get8_call (c : Bool) (nn : Word) (q : Reg8) : (s.call c nn).get8 q = s.get8 q := by cases q <;> simp [State.get8]
@[simp] theorem State.get8_ret (c : Bool) (q : Reg8) : (s.ret c).get8 q = s.get8 q := by cases q <;> simp [State.get8]
@[simp] theorem State.get8_restart (vector : Word) (q : Reg8) : (s.restart vector).get8 q = s.get8 q := by cases q <;> simp [State.get8]

end Sys2Proof.Machine
end

