-- ==== Sys2Proof/Tests/Slice0.lean ====
section
/-! SUPPORT. The model's own tests. The expected results of the single-step tests are the rows of spec/95_test_vectors.md;
the bytes of the decode tests are the encodings of spec/30_encoding.md R88 and its opcode table; then come the witnesses
that the hypotheses of the statements can be met. -/
namespace Sys2Proof.Tests
open Sys2Proof.Machine

/-- The start state of the spec's vectors, with the memory given as its cells by rising address. -/
def start (mem : Memory) : State := { State.reset with sp := 0x8000, pc := 0x0100, mem := mem }

/-! ## Ill-formed terms are refused -/

theorem test_wf_djnz : ¬ (Instr.djnz_e 128).WellFormed ∧ ¬ (Instr.djnz_e (-129)).WellFormed := by decide
theorem test_wf_jr : ¬ (Instr.jr_e 128).WellFormed ∧ ¬ (Instr.jr_e (-129)).WellFormed := by decide
theorem test_wf_jrNZ : ¬ (Instr.jrNZ_e 128).WellFormed ∧ ¬ (Instr.jrNZ_e (-129)).WellFormed := by decide
theorem test_wf_jrZ : ¬ (Instr.jrZ_e 128).WellFormed ∧ ¬ (Instr.jrZ_e (-129)).WellFormed := by decide
theorem test_wf_jrNC : ¬ (Instr.jrNC_e 128).WellFormed ∧ ¬ (Instr.jrNC_e (-129)).WellFormed := by decide
theorem test_wf_jrC : ¬ (Instr.jrC_e 128).WellFormed ∧ ¬ (Instr.jrC_e (-129)).WellFormed := by decide
theorem test_wf_ok : (Instr.jr_e 127).WellFormed ∧ (Instr.jr_e (-128)).WellFormed ∧ (Instr.ldA_n 0xFF).WellFormed := by
  decide

/-! ## Decoding -/

/-- The rows 0x00 to 0x0F of the opcode map (R88). -/
theorem test_decode_0x :
    decodeBytes [0b00000000] = .ok (.nop, [])
    ∧ decodeBytes [0b00000001, 0x34, 0x12] = .ok (.ldBC_nn 0x1234, [])
    ∧ decodeBytes [0b00000010] = .ok (.ldmBC_A, [])
    ∧ decodeBytes [0b00000011] = .ok (.incBC, [])
    ∧ decodeBytes [0b00000100] = .ok (.incB, [])
    ∧ decodeBytes [0b00000101] = .ok (.decB, [])
    ∧ decodeBytes [0b00000110, 0xA5] = .ok (.ldB_n 0xA5, [])
    ∧ decodeBytes [0b00000111] = .ok (.rlca, [])
    ∧ decodeBytes [0b00001000] = .ok (.exAF_AF, [])
    ∧ decodeBytes [0b00001001] = .ok (.addHL_BC, [])
    ∧ decodeBytes [0b00001010] = .ok (.ldA_mBC, [])
    ∧ decodeBytes [0b00001011] = .ok (.decBC, [])
    ∧ decodeBytes [0b00001100] = .ok (.incC, [])
    ∧ decodeBytes [0b00001101] = .ok (.decC, [])
    ∧ decodeBytes [0b00001110, 0xA5] = .ok (.ldC_n 0xA5, [])
    ∧ decodeBytes [0b00001111] = .ok (.rrca, []) := by
  refine ⟨?_, ?_, ?_, ?_, ?_, ?_, ?_, ?_, ?_, ?_, ?_, ?_, ?_, ?_, ?_, ?_⟩ <;> rfl

/-- The rows 0x10 to 0x1F of the opcode map (R88). -/
theorem test_decode_1x :
    decodeBytes [0b00010000, 0xFE] = .ok (.djnz_e (-2), [])
    ∧ decodeBytes [0b00010001, 0x34, 0x12] = .ok (.ldDE_nn 0x1234, [])
    ∧ decodeBytes [0b00010010] = .ok (.ldmDE_A, [])
    ∧ decodeBytes [0b00010011] = .ok (.incDE, [])
    ∧ decodeBytes [0b00010100] = .ok (.incD, [])
    ∧ decodeBytes [0b00010101] = .ok (.decD, [])
    ∧ decodeBytes [0b00010110, 0xA5] = .ok (.ldD_n 0xA5, [])
    ∧ decodeBytes [0b00010111] = .ok (.rla, [])
    ∧ decodeBytes [0b00011000, 0xFE] = .ok (.jr_e (-2), [])
    ∧ decodeBytes [0b00011001] = .ok (.addHL_DE, [])
    ∧ decodeBytes [0b00011010] = .ok (.ldA_mDE, [])
    ∧ decodeBytes [0b00011011] = .ok (.decDE, [])
    ∧ decodeBytes [0b00011100] = .ok (.incE, [])
    ∧ decodeBytes [0b00011101] = .ok (.decE, [])
    ∧ decodeBytes [0b00011110, 0xA5] = .ok (.ldE_n 0xA5, [])
    ∧ decodeBytes [0b00011111] = .ok (.rra, []) := by
  refine ⟨?_, ?_, ?_, ?_, ?_, ?_, ?_, ?_, ?_, ?_, ?_, ?_, ?_, ?_, ?_, ?_⟩ <;> rfl

/-- The rows 0x20 to 0x2F of the opcode map (R88). -/
theorem test_decode_2x :
    decodeBytes [0b00100000, 0xFE] = .ok (.jrNZ_e (-2), [])
    ∧ decodeBytes [0b00100001, 0x34, 0x12] = .ok (.ldHL_nn 0x1234, [])
    ∧ decodeBytes [0b00100010, 0x34, 0x12] = .ok (.ldmnn_HL 0x1234, [])
    ∧ decodeBytes [0b00100011] = .ok (.incHL, [])
    ∧ decodeBytes [0b00100100] = .ok (.incH, [])
    ∧ decodeBytes [0b00100101] = .ok (.decH, [])
    ∧ decodeBytes [0b00100110, 0xA5] = .ok (.ldH_n 0xA5, [])
    ∧ decodeBytes [0b00100111] = .ok (.daa, [])
    ∧ decodeBytes [0b00101000, 0xFE] = .ok (.jrZ_e (-2), [])
    ∧ decodeBytes [0b00101001] = .ok (.addHL_HL, [])
    ∧ decodeBytes [0b00101010, 0x34, 0x12] = .ok (.ldHL_mnn 0x1234, [])
    ∧ decodeBytes [0b00101011] = .ok (.decHL, [])
    ∧ decodeBytes [0b00101100] = .ok (.incL, [])
    ∧ decodeBytes [0b00101101] = .ok (.decL, [])
    ∧ decodeBytes [0b00101110, 0xA5] = .ok (.ldL_n 0xA5, [])
    ∧ decodeBytes [0b00101111] = .ok (.cpl, []) := by
  refine ⟨?_, ?_, ?_, ?_, ?_, ?_, ?_, ?_, ?_, ?_, ?_, ?_, ?_, ?_, ?_, ?_⟩ <;> rfl

/-- The rows 0x30 to 0x3F of the opcode map (R88). -/
theorem test_decode_3x :
    decodeBytes [0b00110000, 0xFE] = .ok (.jrNC_e (-2), [])
    ∧ decodeBytes [0b00110001, 0x34, 0x12] = .ok (.ldSP_nn 0x1234, [])
    ∧ decodeBytes [0b00110010, 0x34, 0x12] = .ok (.ldmnn_A 0x1234, [])
    ∧ decodeBytes [0b00110011] = .ok (.incSP, [])
    ∧ decodeBytes [0b00110100] = .ok (.incmHL, [])
    ∧ decodeBytes [0b00110101] = .ok (.decmHL, [])
    ∧ decodeBytes [0b00110110, 0xA5] = .ok (.ldmHL_n 0xA5, [])
    ∧ decodeBytes [0b00110111] = .ok (.scf, [])
    ∧ decodeBytes [0b00111000, 0xFE] = .ok (.jrC_e (-2), [])
    ∧ decodeBytes [0b00111001] = .ok (.addHL_SP, [])
    ∧ decodeBytes [0b00111010, 0x34, 0x12] = .ok (.ldA_mnn 0x1234, [])
    ∧ decodeBytes [0b00111011] = .ok (.decSP, [])
    ∧ decodeBytes [0b00111100] = .ok (.incA, [])
    ∧ decodeBytes [0b00111101] = .ok (.decA, [])
    ∧ decodeBytes [0b00111110, 0xA5] = .ok (.ldA_n 0xA5, [])
    ∧ decodeBytes [0b00111111] = .ok (.ccf, []) := by
  refine ⟨?_, ?_, ?_, ?_, ?_, ?_, ?_, ?_, ?_, ?_, ?_, ?_, ?_, ?_, ?_, ?_⟩ <;> rfl

/-- The rows 0x40 to 0x4F of the opcode map (R88). -/
theorem test_decode_4x :
    decodeBytes [0b01000000] = .ok (.ldB_B, [])
    ∧ decodeBytes [0b01000001] = .ok (.ldB_C, [])
    ∧ decodeBytes [0b01000010] = .ok (.ldB_D, [])
    ∧ decodeBytes [0b01000011] = .ok (.ldB_E, [])
    ∧ decodeBytes [0b01000100] = .ok (.ldB_H, [])
    ∧ decodeBytes [0b01000101] = .ok (.ldB_L, [])
    ∧ decodeBytes [0b01000110] = .ok (.ldB_mHL, [])
    ∧ decodeBytes [0b01000111] = .ok (.ldB_A, [])
    ∧ decodeBytes [0b01001000] = .ok (.ldC_B, [])
    ∧ decodeBytes [0b01001001] = .ok (.ldC_C, [])
    ∧ decodeBytes [0b01001010] = .ok (.ldC_D, [])
    ∧ decodeBytes [0b01001011] = .ok (.ldC_E, [])
    ∧ decodeBytes [0b01001100] = .ok (.ldC_H, [])
    ∧ decodeBytes [0b01001101] = .ok (.ldC_L, [])
    ∧ decodeBytes [0b01001110] = .ok (.ldC_mHL, [])
    ∧ decodeBytes [0b01001111] = .ok (.ldC_A, []) := by
  refine ⟨?_, ?_, ?_, ?_, ?_, ?_, ?_, ?_, ?_, ?_, ?_, ?_, ?_, ?_, ?_, ?_⟩ <;> rfl

/-- The rows 0x50 to 0x5F of the opcode map (R88). -/
theorem test_decode_5x :
    decodeBytes [0b01010000] = .ok (.ldD_B, [])
    ∧ decodeBytes [0b01010001] = .ok (.ldD_C, [])
    ∧ decodeBytes [0b01010010] = .ok (.ldD_D, [])
    ∧ decodeBytes [0b01010011] = .ok (.ldD_E, [])
    ∧ decodeBytes [0b01010100] = .ok (.ldD_H, [])
    ∧ decodeBytes [0b01010101] = .ok (.ldD_L, [])
    ∧ decodeBytes [0b01010110] = .ok (.ldD_mHL, [])
    ∧ decodeBytes [0b01010111] = .ok (.ldD_A, [])
    ∧ decodeBytes [0b01011000] = .ok (.ldE_B, [])
    ∧ decodeBytes [0b01011001] = .ok (.ldE_C, [])
    ∧ decodeBytes [0b01011010] = .ok (.ldE_D, [])
    ∧ decodeBytes [0b01011011] = .ok (.ldE_E, [])
    ∧ decodeBytes [0b01011100] = .ok (.ldE_H, [])
    ∧ decodeBytes [0b01011101] = .ok (.ldE_L, [])
    ∧ decodeBytes [0b01011110] = .ok (.ldE_mHL, [])
    ∧ decodeBytes [0b01011111] = .ok (.ldE_A, []) := by
  refine ⟨?_, ?_, ?_, ?_, ?_, ?_, ?_, ?_, ?_, ?_, ?_, ?_, ?_, ?_, ?_, ?_⟩ <;> rfl

/-- The rows 0x60 to 0x6F of the opcode map (R88). -/
theorem test_decode_6x :
    decodeBytes [0b01100000] = .ok (.ldH_B, [])
    ∧ decodeBytes [0b01100001] = .ok (.ldH_C, [])
    ∧ decodeBytes [0b01100010] = .ok (.ldH_D, [])
    ∧ decodeBytes [0b01100011] = .ok (.ldH_E, [])
    ∧ decodeBytes [0b01100100] = .ok (.ldH_H, [])
    ∧ decodeBytes [0b01100101] = .ok (.ldH_L, [])
    ∧ decodeBytes [0b01100110] = .ok (.ldH_mHL, [])
    ∧ decodeBytes [0b01100111] = .ok (.ldH_A, [])
    ∧ decodeBytes [0b01101000] = .ok (.ldL_B, [])
    ∧ decodeBytes [0b01101001] = .ok (.ldL_C, [])
    ∧ decodeBytes [0b01101010] = .ok (.ldL_D, [])
    ∧ decodeBytes [0b01101011] = .ok (.ldL_E, [])
    ∧ decodeBytes [0b01101100] = .ok (.ldL_H, [])
    ∧ decodeBytes [0b01101101] = .ok (.ldL_L, [])
    ∧ decodeBytes [0b01101110] = .ok (.ldL_mHL, [])
    ∧ decodeBytes [0b01101111] = .ok (.ldL_A, []) := by
  refine ⟨?_, ?_, ?_, ?_, ?_, ?_, ?_, ?_, ?_, ?_, ?_, ?_, ?_, ?_, ?_, ?_⟩ <;> rfl

/-- The rows 0x70 to 0x7F of the opcode map (R88). -/
theorem test_decode_7x :
    decodeBytes [0b01110000] = .ok (.ldmHL_B, [])
    ∧ decodeBytes [0b01110001] = .ok (.ldmHL_C, [])
    ∧ decodeBytes [0b01110010] = .ok (.ldmHL_D, [])
    ∧ decodeBytes [0b01110011] = .ok (.ldmHL_E, [])
    ∧ decodeBytes [0b01110100] = .ok (.ldmHL_H, [])
    ∧ decodeBytes [0b01110101] = .ok (.ldmHL_L, [])
    ∧ decodeBytes [0b01110110] = .ok (.halt, [])
    ∧ decodeBytes [0b01110111] = .ok (.ldmHL_A, [])
    ∧ decodeBytes [0b01111000] = .ok (.ldA_B, [])
    ∧ decodeBytes [0b01111001] = .ok (.ldA_C, [])
    ∧ decodeBytes [0b01111010] = .ok (.ldA_D, [])
    ∧ decodeBytes [0b01111011] = .ok (.ldA_E, [])
    ∧ decodeBytes [0b01111100] = .ok (.ldA_H, [])
    ∧ decodeBytes [0b01111101] = .ok (.ldA_L, [])
    ∧ decodeBytes [0b01111110] = .ok (.ldA_mHL, [])
    ∧ decodeBytes [0b01111111] = .ok (.ldA_A, []) := by
  refine ⟨?_, ?_, ?_, ?_, ?_, ?_, ?_, ?_, ?_, ?_, ?_, ?_, ?_, ?_, ?_, ?_⟩ <;> rfl

/-- The rows 0x80 to 0x8F of the opcode map (R88). -/
theorem test_decode_8x :
    decodeBytes [0b10000000] = .ok (.addA_B, [])
    ∧ decodeBytes [0b10000001] = .ok (.addA_C, [])
    ∧ decodeBytes [0b10000010] = .ok (.addA_D, [])
    ∧ decodeBytes [0b10000011] = .ok (.addA_E, [])
    ∧ decodeBytes [0b10000100] = .ok (.addA_H, [])
    ∧ decodeBytes [0b10000101] = .ok (.addA_L, [])
    ∧ decodeBytes [0b10000110] = .ok (.addA_mHL, [])
    ∧ decodeBytes [0b10000111] = .ok (.addA_A, [])
    ∧ decodeBytes [0b10001000] = .ok (.adcA_B, [])
    ∧ decodeBytes [0b10001001] = .ok (.adcA_C, [])
    ∧ decodeBytes [0b10001010] = .ok (.adcA_D, [])
    ∧ decodeBytes [0b10001011] = .ok (.adcA_E, [])
    ∧ decodeBytes [0b10001100] = .ok (.adcA_H, [])
    ∧ decodeBytes [0b10001101] = .ok (.adcA_L, [])
    ∧ decodeBytes [0b10001110] = .ok (.adcA_mHL, [])
    ∧ decodeBytes [0b10001111] = .ok (.adcA_A, []) := by
  refine ⟨?_, ?_, ?_, ?_, ?_, ?_, ?_, ?_, ?_, ?_, ?_, ?_, ?_, ?_, ?_, ?_⟩ <;> rfl

/-- The rows 0x90 to 0x9F of the opcode map (R88). -/
theorem test_decode_9x :
    decodeBytes [0b10010000] = .ok (.subB, [])
    ∧ decodeBytes [0b10010001] = .ok (.subC, [])
    ∧ decodeBytes [0b10010010] = .ok (.subD, [])
    ∧ decodeBytes [0b10010011] = .ok (.subE, [])
    ∧ decodeBytes [0b10010100] = .ok (.subH, [])
    ∧ decodeBytes [0b10010101] = .ok (.subL, [])
    ∧ decodeBytes [0b10010110] = .ok (.submHL, [])
    ∧ decodeBytes [0b10010111] = .ok (.subA, [])
    ∧ decodeBytes [0b10011000] = .ok (.sbcA_B, [])
    ∧ decodeBytes [0b10011001] = .ok (.sbcA_C, [])
    ∧ decodeBytes [0b10011010] = .ok (.sbcA_D, [])
    ∧ decodeBytes [0b10011011] = .ok (.sbcA_E, [])
    ∧ decodeBytes [0b10011100] = .ok (.sbcA_H, [])
    ∧ decodeBytes [0b10011101] = .ok (.sbcA_L, [])
    ∧ decodeBytes [0b10011110] = .ok (.sbcA_mHL, [])
    ∧ decodeBytes [0b10011111] = .ok (.sbcA_A, []) := by
  refine ⟨?_, ?_, ?_, ?_, ?_, ?_, ?_, ?_, ?_, ?_, ?_, ?_, ?_, ?_, ?_, ?_⟩ <;> rfl

/-- The rows 0xA0 to 0xAF of the opcode map (R88). -/
theorem test_decode_Ax :
    decodeBytes [0b10100000] = .ok (.andB, [])
    ∧ decodeBytes [0b10100001] = .ok (.andC, [])
    ∧ decodeBytes [0b10100010] = .ok (.andD, [])
    ∧ decodeBytes [0b10100011] = .ok (.andE, [])
    ∧ decodeBytes [0b10100100] = .ok (.andH, [])
    ∧ decodeBytes [0b10100101] = .ok (.andL, [])
    ∧ decodeBytes [0b10100110] = .ok (.andmHL, [])
    ∧ decodeBytes [0b10100111] = .ok (.andA, [])
    ∧ decodeBytes [0b10101000] = .ok (.xorB, [])
    ∧ decodeBytes [0b10101001] = .ok (.xorC, [])
    ∧ decodeBytes [0b10101010] = .ok (.xorD, [])
    ∧ decodeBytes [0b10101011] = .ok (.xorE, [])
    ∧ decodeBytes [0b10101100] = .ok (.xorH, [])
    ∧ decodeBytes [0b10101101] = .ok (.xorL, [])
    ∧ decodeBytes [0b10101110] = .ok (.xormHL, [])
    ∧ decodeBytes [0b10101111] = .ok (.xorA, []) := by
  refine ⟨?_, ?_, ?_, ?_, ?_, ?_, ?_, ?_, ?_, ?_, ?_, ?_, ?_, ?_, ?_, ?_⟩ <;> rfl

/-- The rows 0xB0 to 0xBF of the opcode map (R88). -/
theorem test_decode_Bx :
    decodeBytes [0b10110000] = .ok (.orB, [])
    ∧ decodeBytes [0b10110001] = .ok (.orC, [])
    ∧ decodeBytes [0b10110010] = .ok (.orD, [])
    ∧ decodeBytes [0b10110011] = .ok (.orE, [])
    ∧ decodeBytes [0b10110100] = .ok (.orH, [])
    ∧ decodeBytes [0b10110101] = .ok (.orL, [])
    ∧ decodeBytes [0b10110110] = .ok (.ormHL, [])
    ∧ decodeBytes [0b10110111] = .ok (.orA, [])
    ∧ decodeBytes [0b10111000] = .ok (.cpB, [])
    ∧ decodeBytes [0b10111001] = .ok (.cpC, [])
    ∧ decodeBytes [0b10111010] = .ok (.cpD, [])
    ∧ decodeBytes [0b10111011] = .ok (.cpE, [])
    ∧ decodeBytes [0b10111100] = .ok (.cpH, [])
    ∧ decodeBytes [0b10111101] = .ok (.cpL, [])
    ∧ decodeBytes [0b10111110] = .ok (.cpmHL, [])
    ∧ decodeBytes [0b10111111] = .ok (.cpA, []) := by
  refine ⟨?_, ?_, ?_, ?_, ?_, ?_, ?_, ?_, ?_, ?_, ?_, ?_, ?_, ?_, ?_, ?_⟩ <;> rfl

/-- The rows 0xC0 to 0xCF of the opcode map (R88). -/
theorem test_decode_Cx :
    decodeBytes [0b11000000] = .ok (.retNZ, [])
    ∧ decodeBytes [0b11000001] = .ok (.popBC, [])
    ∧ decodeBytes [0b11000010, 0x34, 0x12] = .ok (.jpNZ_nn 0x1234, [])
    ∧ decodeBytes [0b11000011, 0x34, 0x12] = .ok (.jp_nn 0x1234, [])
    ∧ decodeBytes [0b11000100, 0x34, 0x12] = .ok (.callNZ_nn 0x1234, [])
    ∧ decodeBytes [0b11000101] = .ok (.pushBC, [])
    ∧ decodeBytes [0b11000110, 0xA5] = .ok (.addA_n 0xA5, [])
    ∧ decodeBytes [0b11000111] = .ok (.rst00, [])
    ∧ decodeBytes [0b11001000] = .ok (.retZ, [])
    ∧ decodeBytes [0b11001001] = .ok (.ret, [])
    ∧ decodeBytes [0b11001010, 0x34, 0x12] = .ok (.jpZ_nn 0x1234, [])
    ∧ decodeBytes [0b11001011] = .ok (.cbPrefix, [])
    ∧ decodeBytes [0b11001100, 0x34, 0x12] = .ok (.callZ_nn 0x1234, [])
    ∧ decodeBytes [0b11001101, 0x34, 0x12] = .ok (.call_nn 0x1234, [])
    ∧ decodeBytes [0b11001110, 0xA5] = .ok (.adcA_n 0xA5, [])
    ∧ decodeBytes [0b11001111] = .ok (.rst08, []) := by
  refine ⟨?_, ?_, ?_, ?_, ?_, ?_, ?_, ?_, ?_, ?_, ?_, ?_, ?_, ?_, ?_, ?_⟩ <;> rfl

/-- The rows 0xD0 to 0xDF of the opcode map (R88). -/
theorem test_decode_Dx :
    decodeBytes [0b11010000] = .ok (.retNC, [])
    ∧ decodeBytes [0b11010001] = .ok (.popDE, [])
    ∧ decodeBytes [0b11010010, 0x34, 0x12] = .ok (.jpNC_nn 0x1234, [])
    ∧ decodeBytes [0b11010011, 0xA5] = .ok (.outmn_A 0xA5, [])
    ∧ decodeBytes [0b11010100, 0x34, 0x12] = .ok (.callNC_nn 0x1234, [])
    ∧ decodeBytes [0b11010101] = .ok (.pushDE, [])
    ∧ decodeBytes [0b11010110, 0xA5] = .ok (.sub_n 0xA5, [])
    ∧ decodeBytes [0b11010111] = .ok (.rst10, [])
    ∧ decodeBytes [0b11011000] = .ok (.retC, [])
    ∧ decodeBytes [0b11011001] = .ok (.exx, [])
    ∧ decodeBytes [0b11011010, 0x34, 0x12] = .ok (.jpC_nn 0x1234, [])
    ∧ decodeBytes [0b11011011, 0xA5] = .ok (.inA_mn 0xA5, [])
    ∧ decodeBytes [0b11011100, 0x34, 0x12] = .ok (.callC_nn 0x1234, [])
    ∧ decodeBytes [0b11011101] = .ok (.ddPrefix, [])
    ∧ decodeBytes [0b11011110, 0xA5] = .ok (.sbcA_n 0xA5, [])
    ∧ decodeBytes [0b11011111] = .ok (.rst18, []) := by
  refine ⟨?_, ?_, ?_, ?_, ?_, ?_, ?_, ?_, ?_, ?_, ?_, ?_, ?_, ?_, ?_, ?_⟩ <;> rfl

/-- The rows 0xE0 to 0xEF of the opcode map (R88). -/
theorem test_decode_Ex :
    decodeBytes [0b11100000] = .ok (.retPO, [])
    ∧ decodeBytes [0b11100001] = .ok (.popHL, [])
    ∧ decodeBytes [0b11100010, 0x34, 0x12] = .ok (.jpPO_nn 0x1234, [])
    ∧ decodeBytes [0b11100011] = .ok (.exmSP_HL, [])
    ∧ decodeBytes [0b11100100, 0x34, 0x12] = .ok (.callPO_nn 0x1234, [])
    ∧ decodeBytes [0b11100101] = .ok (.pushHL, [])
    ∧ decodeBytes [0b11100110, 0xA5] = .ok (.and_n 0xA5, [])
    ∧ decodeBytes [0b11100111] = .ok (.rst20, [])
    ∧ decodeBytes [0b11101000] = .ok (.retPE, [])
    ∧ decodeBytes [0b11101001] = .ok (.jpHL, [])
    ∧ decodeBytes [0b11101010, 0x34, 0x12] = .ok (.jpPE_nn 0x1234, [])
    ∧ decodeBytes [0b11101011] = .ok (.exDE_HL, [])
    ∧ decodeBytes [0b11101100, 0x34, 0x12] = .ok (.callPE_nn 0x1234, [])
    ∧ decodeBytes [0b11101101] = .ok (.edPrefix, [])
    ∧ decodeBytes [0b11101110, 0xA5] = .ok (.xor_n 0xA5, [])
    ∧ decodeBytes [0b11101111] = .ok (.rst28, []) := by
  refine ⟨?_, ?_, ?_, ?_, ?_, ?_, ?_, ?_, ?_, ?_, ?_, ?_, ?_, ?_, ?_, ?_⟩ <;> rfl

/-- The rows 0xF0 to 0xFF of the opcode map (R88). -/
theorem test_decode_Fx :
    decodeBytes [0b11110000] = .ok (.retP, [])
    ∧ decodeBytes [0b11110001] = .ok (.popAF, [])
    ∧ decodeBytes [0b11110010, 0x34, 0x12] = .ok (.jpP_nn 0x1234, [])
    ∧ decodeBytes [0b11110011] = .ok (.di, [])
    ∧ decodeBytes [0b11110100, 0x34, 0x12] = .ok (.callP_nn 0x1234, [])
    ∧ decodeBytes [0b11110101] = .ok (.pushAF, [])
    ∧ decodeBytes [0b11110110, 0xA5] = .ok (.or_n 0xA5, [])
    ∧ decodeBytes [0b11110111] = .ok (.rst30, [])
    ∧ decodeBytes [0b11111000] = .ok (.retM, [])
    ∧ decodeBytes [0b11111001] = .ok (.ldSP_HL, [])
    ∧ decodeBytes [0b11111010, 0x34, 0x12] = .ok (.jpM_nn 0x1234, [])
    ∧ decodeBytes [0b11111011] = .ok (.ei, [])
    ∧ decodeBytes [0b11111100, 0x34, 0x12] = .ok (.callM_nn 0x1234, [])
    ∧ decodeBytes [0b11111101] = .ok (.fdPrefix, [])
    ∧ decodeBytes [0b11111110, 0xA5] = .ok (.cp_n 0xA5, [])
    ∧ decodeBytes [0b11111111] = .ok (.rst38, []) := by
  refine ⟨?_, ?_, ?_, ?_, ?_, ?_, ?_, ?_, ?_, ?_, ?_, ?_, ?_, ?_, ?_, ?_⟩ <;> rfl

/-- A stream that holds no whole instruction is rejected by name. -/
theorem test_decode_short : decodeBytes [] = .error .noOpcode ∧ decodeBytes [0x3E] = .error .truncated
    ∧ decodeBytes [0xC3, 0x00] = .error .truncated := ⟨rfl, rfl, rfl⟩

/-- The opcode table's numbering: the second byte is bits 15..8. -/
theorem test_decodeTableWord : decodeTableWord 16 0x053E = some (.ldA_n 0x05) ∧ decodeTableWord 8 0xC3 = some (.jp_nn 0)
    ∧ decodeTableWord 24 0x1234CD = some (.call_nn 0x1234) := by decide

/-- The instruction placed is the one the next step runs. -/
theorem test_withFetchWord : (State.reset.withFetchWord 8 0x3C).fetch = .incA
    ∧ (State.reset.withFetchWord 24 0x1234C3).fetch = .jp_nn 0x1234
    ∧ ∃ t, step (State.reset.withFetchWord 16 0x053E) = .next t ∧ t.a = 0x05 ∧ t.pc = 0x0002 := ⟨rfl, rfl, _, rfl, rfl, rfl⟩

/-! ## Single steps: rows of spec/95_test_vectors.md -/

/-- V-D1 (R105): NOP changes nothing but pc. -/
theorem test_VD1 : ∃ t, step ({ start [] with a := 0x12, f := 0xD7 }) = .next t
    ∧ t.pc = 0x0101 ∧ t.f = 0xD7 :=
  ⟨_, rfl, rfl, rfl⟩

/-- V-D2 (R106): 5 steps at HALT: pc stays. -/
theorem test_VD2 : ∃ t, step (start [(0x0100, 0x76)]) = .next t
    ∧ t.pc = 0x0100 ∧ t.f = 0x00 :=
  ⟨_, rfl, rfl, rfl⟩

/-- V-D3 (R107): DI. -/
theorem test_VD3 : ∃ t, step ({ start [(0x0100, 0xF3)] with f := 0x01 }) = .next t
    ∧ t.pc = 0x0101 ∧ t.f = 0x01 :=
  ⟨_, rfl, rfl, rfl⟩

/-- V-D4 (R108): EI. -/
theorem test_VD4 : ∃ t, step (start [(0x0100, 0xFB)]) = .next t
    ∧ t.pc = 0x0101 ∧ t.f = 0x00 :=
  ⟨_, rfl, rfl, rfl⟩

/-- V-D6 (R54, R51): operand byte fetched from 0x0000 (mem[0000]=00); pc wraps to 0x0001. -/
theorem test_VD6 : ∃ t, step ({ start [(0xFFFF, 0x3E)] with a := 0x11, pc := 0xFFFF }) = .next t
    ∧ t.a = 0x00 ∧ t.pc = 0x0001 ∧ t.f = 0x00 :=
  ⟨_, rfl, rfl, rfl, rfl⟩

/-- V-C1 (R125). -/
theorem test_VC1 : ∃ t, step (start [(0x0100, 0xC3), (0x0101, 0x34), (0x0102, 0x12)]) = .next t
    ∧ t.pc = 0x1234 ∧ t.f = 0x00 :=
  ⟨_, rfl, rfl, rfl⟩

/-- V-C2 (R126): JP Z taken. -/
theorem test_VC2 : ∃ t, step ({ start [(0x0100, 0xCA), (0x0102, 0x20)] with f := 0x40 }) = .next t
    ∧ t.pc = 0x2000 ∧ t.f = 0x40 :=
  ⟨_, rfl, rfl, rfl⟩

/-- V-C3 (R126): JP Z not taken: pc+3. -/
theorem test_VC3 : ∃ t, step ({ start [(0x0100, 0xCA), (0x0102, 0x20)] with f := 0x00 }) = .next t
    ∧ t.pc = 0x0103 ∧ t.f = 0x00 :=
  ⟨_, rfl, rfl, rfl⟩

/-- V-C5 (R126): JP P not taken (S=1). -/
theorem test_VC5 : ∃ t, step ({ start [(0x0100, 0xF2), (0x0102, 0x20)] with f := 0x80 }) = .next t
    ∧ t.pc = 0x0103 ∧ t.f = 0x80 :=
  ⟨_, rfl, rfl, rfl⟩

/-- V-C8 (R127): JR -128. -/
theorem test_VC8 : ∃ t, step (start [(0x0100, 0x18), (0x0101, 0x80)]) = .next t
    ∧ t.pc = 0x0082 ∧ t.f = 0x00 :=
  ⟨_, rfl, rfl, rfl⟩

/-- V-C9 (R127): JR +127 wraps past 0xFFFF. -/
theorem test_VC9 : ∃ t, step ({ start [(0xFFF0, 0x18), (0xFFF1, 0x7F)] with pc := 0xFFF0 }) = .next t
    ∧ t.pc = 0x0071 ∧ t.f = 0x00 :=
  ⟨_, rfl, rfl, rfl⟩

/-- V-C11 (R128): JR NC not taken: pc+2. -/
theorem test_VC11 : ∃ t, step ({ start [(0x0100, 0x30), (0x0101, 0x10)] with f := 0x01 }) = .next t
    ∧ t.pc = 0x0102 ∧ t.f = 0x01 :=
  ⟨_, rfl, rfl, rfl⟩

/-- V-C13 (R129): DJNZ falls through, B=0, Z not set. -/
theorem test_VC13 : ∃ t, step ({ start [(0x0100, 0x10), (0x0101, 0xFC)] with b := 0x01, f := 0x00 }) = .next t
    ∧ t.b = 0x00 ∧ t.pc = 0x0102 ∧ t.f = 0x00 :=
  ⟨_, rfl, rfl, rfl, rfl⟩

/-- V-C14 (R129): B=0 wraps to FF, taken. -/
theorem test_VC14 : ∃ t, step ({ start [(0x0100, 0x10), (0x0101, 0xFC)] with b := 0x00 }) = .next t
    ∧ t.b = 0xFF ∧ t.pc = 0x00FE ∧ t.f = 0x00 :=
  ⟨_, rfl, rfl, rfl, rfl⟩

/-- V-C15 (R130): JP (HL): pc <- HL, no memory read. -/
theorem test_VC15 : ∃ t, step ({ start [(0x0100, 0xE9)] with h := 0xBE, l := 0xEF }) = .next t
    ∧ t.pc = 0xBEEF ∧ t.f = 0x00 :=
  ⟨_, rfl, rfl, rfl⟩

/-- V-C16 (R131): return address 0x0103 pushed. -/
theorem test_VC16 : ∃ t, step ({ start [(0x0100, 0xCD), (0x0102, 0x30)] with sp := 0x8000 }) = .next t
    ∧ t.sp = 0x7FFE ∧ t.memRead 0x7FFE = 0x03 ∧ t.memRead 0x7FFF = 0x01 ∧ t.pc = 0x3000 ∧ t.f = 0x00 :=
  ⟨_, rfl, rfl, rfl, rfl, rfl, rfl⟩

/-- V-C17 (R132): CALL NZ taken. -/
theorem test_VC17 : ∃ t, step ({ start [(0x0100, 0xC4), (0x0102, 0x30)] with sp := 0x8000, f := 0x00 }) = .next t
    ∧ t.sp = 0x7FFE ∧ t.memRead 0x7FFE = 0x03 ∧ t.memRead 0x7FFF = 0x01 ∧ t.pc = 0x3000 ∧ t.f = 0x00 :=
  ⟨_, rfl, rfl, rfl, rfl, rfl, rfl⟩

/-- V-C18 (R132): CALL NZ not taken: pc+3, no push. -/
theorem test_VC18 : ∃ t, step ({ start [(0x0100, 0xC4), (0x0102, 0x30)] with sp := 0x8000, f := 0x40 }) = .next t
    ∧ t.pc = 0x0103 ∧ t.f = 0x40 :=
  ⟨_, rfl, rfl, rfl⟩

/-- V-C19 (R134). -/
theorem test_VC19 : ∃ t, step ({ start [(0x0100, 0xC9), (0x7FFE, 0x21), (0x7FFF, 0x43)] with sp := 0x7FFE }) = .next t
    ∧ t.sp = 0x8000 ∧ t.pc = 0x4321 ∧ t.f = 0x00 :=
  ⟨_, rfl, rfl, rfl, rfl⟩

/-- V-C20 (R133): RET Z taken. -/
theorem test_VC20 : ∃ t, step ({ start [(0x0100, 0xC8), (0x7FFE, 0x21), (0x7FFF, 0x43)] with sp := 0x7FFE, f := 0x40 }) = .next t
    ∧ t.sp = 0x8000 ∧ t.pc = 0x4321 ∧ t.f = 0x40 :=
  ⟨_, rfl, rfl, rfl, rfl⟩

/-- V-C21 (R133, R461): RET Z not taken: pc+3 (RET_CC_SKIP). -/
theorem test_VC21 : ∃ t, step ({ start [(0x0100, 0xC8), (0x7FFE, 0x21), (0x7FFF, 0x43)] with sp := 0x7FFE, f := 0x00 }) = .next t
    ∧ t.pc = 0x0103 ∧ t.f = 0x00 :=
  ⟨_, rfl, rfl, rfl⟩

/-- V-C22 (R135): RST 38H pushes pc+1. -/
theorem test_VC22 : ∃ t, step ({ start [(0x0100, 0xFF)] with sp := 0x8000 }) = .next t
    ∧ t.sp = 0x7FFE ∧ t.memRead 0x7FFE = 0x01 ∧ t.memRead 0x7FFF = 0x01 ∧ t.pc = 0x0038 ∧ t.f = 0x00 :=
  ⟨_, rfl, rfl, rfl, rfl, rfl, rfl⟩

/-- V-C24 (R135, R62): push wraps SP through 0x0000 to 0xFFFF. -/
theorem test_VC24 : ∃ t, step ({ start [(0x0200, 0xD7)] with sp := 0x0001, pc := 0x0200 }) = .next t
    ∧ t.sp = 0xFFFF ∧ t.memRead 0x0000 = 0x02 ∧ t.memRead 0xFFFF = 0x01 ∧ t.pc = 0x0010 ∧ t.f = 0x00 :=
  ⟨_, rfl, rfl, rfl, rfl, rfl, rfl⟩

/-- V-C25 (R134, R62): pop wraps: low from 0xFFFF, high from 0x0000. -/
theorem test_VC25 : ∃ t, step ({ start [(0x0000, 0x56), (0x0200, 0xC9), (0xFFFF, 0x78)] with sp := 0xFFFF, pc := 0x0200 }) = .next t
    ∧ t.sp = 0x0001 ∧ t.pc = 0x5678 ∧ t.f = 0x00 :=
  ⟨_, rfl, rfl, rfl, rfl⟩

/-- V-A1 (R151). -/
theorem test_VA1 : ∃ t, step ({ start [(0x0100, 0x80)] with a := 0x10, b := 0x22 }) = .next t
    ∧ t.a = 0x32 ∧ t.pc = 0x0101 ∧ t.flag .s = false ∧ t.flag .z = false ∧ t.flag .pv = false ∧ t.flag .c = false ∧ t.flag .n = false := by
  refine ⟨_, rfl, rfl, rfl, ?_, ?_, ?_, ?_, ?_⟩
  · rw [State.flag_advance, State.flag_s_arithFlags]; rfl
  · rw [State.flag_advance, State.flag_z_arithFlags]; rfl
  · rw [State.flag_advance, State.flag_pv_arithFlags]; rfl
  · rw [State.flag_advance, State.flag_c_arithFlags]; rfl
  · rw [State.flag_advance, State.flag_n_arithFlags]; rfl

/-- V-A2 (R151): 0x100: A=00, Z=1, C set. -/
theorem test_VA2 : ∃ t, step ({ start [(0x0100, 0x81)] with a := 0xFF, c := 0x01 }) = .next t
    ∧ t.a = 0x00 ∧ t.pc = 0x0101 ∧ t.flag .s = false ∧ t.flag .z = true ∧ t.flag .pv = false ∧ t.flag .c = true ∧ t.flag .n = false := by
  refine ⟨_, rfl, rfl, rfl, ?_, ?_, ?_, ?_, ?_⟩
  · rw [State.flag_advance, State.flag_s_arithFlags]; rfl
  · rw [State.flag_advance, State.flag_z_arithFlags]; rfl
  · rw [State.flag_advance, State.flag_pv_arithFlags]; rfl
  · rw [State.flag_advance, State.flag_c_arithFlags]; rfl
  · rw [State.flag_advance, State.flag_n_arithFlags]; rfl

/-- V-A4 (R152): C=1 stays 1: set-only. -/
theorem test_VA4 : ∃ t, step ({ start [(0x0100, 0xC6), (0x0101, 0x01)] with a := 0x01, f := 0x01 }) = .next t
    ∧ t.a = 0x02 ∧ t.pc = 0x0102 ∧ t.flag .s = false ∧ t.flag .z = false ∧ t.flag .pv = false ∧ t.flag .c = true ∧ t.flag .n = false := by
  refine ⟨_, rfl, rfl, rfl, ?_, ?_, ?_, ?_, ?_⟩
  · rw [State.flag_advance, State.flag_s_arithFlags]; rfl
  · rw [State.flag_advance, State.flag_z_arithFlags]; rfl
  · rw [State.flag_advance, State.flag_pv_arithFlags]; rfl
  · rw [State.flag_advance, State.flag_c_arithFlags]; rfl
  · rw [State.flag_advance, State.flag_n_arithFlags]; rfl

/-- V-A5 (R152): N=1 stays 1 after an addition. -/
theorem test_VA5 : ∃ t, step ({ start [(0x0100, 0xC6), (0x0101, 0x01)] with a := 0x01, f := 0x02 }) = .next t
    ∧ t.a = 0x02 ∧ t.pc = 0x0102 ∧ t.flag .s = false ∧ t.flag .z = false ∧ t.flag .pv = false ∧ t.flag .c = false ∧ t.flag .n = true := by
  refine ⟨_, rfl, rfl, rfl, ?_, ?_, ?_, ?_, ?_⟩
  · rw [State.flag_advance, State.flag_s_arithFlags]; rfl
  · rw [State.flag_advance, State.flag_z_arithFlags]; rfl
  · rw [State.flag_advance, State.flag_pv_arithFlags]; rfl
  · rw [State.flag_advance, State.flag_c_arithFlags]; rfl
  · rw [State.flag_advance, State.flag_n_arithFlags]; rfl

/-- V-A6 (R153). -/
theorem test_VA6 : ∃ t, step ({ start [(0x0100, 0x86), (0x4000, 0x80)] with a := 0x80, h := 0x40, l := 0x00 }) = .next t
    ∧ t.a = 0x00 ∧ t.pc = 0x0101 ∧ t.flag .s = false ∧ t.flag .z = true ∧ t.flag .pv = false ∧ t.flag .c = true ∧ t.flag .n = false := by
  refine ⟨_, rfl, rfl, rfl, ?_, ?_, ?_, ?_, ?_⟩
  · rw [State.flag_advance, State.flag_s_arithFlags]; rfl
  · rw [State.flag_advance, State.flag_z_arithFlags]; rfl
  · rw [State.flag_advance, State.flag_pv_arithFlags]; rfl
  · rw [State.flag_advance, State.flag_c_arithFlags]; rfl
  · rw [State.flag_advance, State.flag_n_arithFlags]; rfl

/-- V-A8 (R154): ADC A,C with C reg 0, F.C=1. -/
theorem test_VA8 : ∃ t, step ({ start [(0x0100, 0x89)] with a := 0xFF, f := 0x01 }) = .next t
    ∧ t.a = 0x00 ∧ t.pc = 0x0101 ∧ t.flag .s = false ∧ t.flag .z = true ∧ t.flag .pv = false ∧ t.flag .c = true ∧ t.flag .n = false := by
  refine ⟨_, rfl, rfl, rfl, ?_, ?_, ?_, ?_, ?_⟩
  · rw [State.flag_advance, State.flag_s_arithFlags]; rfl
  · rw [State.flag_advance, State.flag_z_arithFlags]; rfl
  · rw [State.flag_advance, State.flag_pv_arithFlags]; rfl
  · rw [State.flag_advance, State.flag_c_arithFlags]; rfl
  · rw [State.flag_advance, State.flag_n_arithFlags]; rfl

/-- V-A9 (R155): largest raw 0x1FF. -/
theorem test_VA9 : ∃ t, step ({ start [(0x0100, 0xCE), (0x0101, 0xFF)] with a := 0xFF, f := 0x01 }) = .next t
    ∧ t.a = 0xFF ∧ t.pc = 0x0102 ∧ t.flag .s = true ∧ t.flag .z = false ∧ t.flag .pv = true ∧ t.flag .c = true ∧ t.flag .n = false := by
  refine ⟨_, rfl, rfl, rfl, ?_, ?_, ?_, ?_, ?_⟩
  · rw [State.flag_advance, State.flag_s_arithFlags]; rfl
  · rw [State.flag_advance, State.flag_z_arithFlags]; rfl
  · rw [State.flag_advance, State.flag_pv_arithFlags]; rfl
  · rw [State.flag_advance, State.flag_c_arithFlags]; rfl
  · rw [State.flag_advance, State.flag_n_arithFlags]; rfl

/-- V-A12 (R158): borrow: C not set (D7). -/
theorem test_VA12 : ∃ t, step ({ start [(0x0100, 0xD6), (0x0101, 0x01)] with a := 0x00 }) = .next t
    ∧ t.a = 0xFF ∧ t.pc = 0x0102 ∧ t.flag .s = true ∧ t.flag .z = false ∧ t.flag .pv = true ∧ t.flag .c = false ∧ t.flag .n = true := by
  refine ⟨_, rfl, rfl, rfl, ?_, ?_, ?_, ?_, ?_⟩
  · rw [State.flag_advance, State.flag_s_arithFlags]; rfl
  · rw [State.flag_advance, State.flag_z_arithFlags]; rfl
  · rw [State.flag_advance, State.flag_pv_arithFlags]; rfl
  · rw [State.flag_advance, State.flag_c_arithFlags]; rfl
  · rw [State.flag_advance, State.flag_n_arithFlags]; rfl

/-- V-A13 (R159): C=1 kept. -/
theorem test_VA13 : ∃ t, step ({ start [(0x0100, 0x96), (0x4000, 0x10)] with a := 0x90, h := 0x40, l := 0x00, f := 0x01 }) = .next t
    ∧ t.a = 0x80 ∧ t.pc = 0x0101 ∧ t.flag .s = true ∧ t.flag .z = false ∧ t.flag .pv = true ∧ t.flag .c = true ∧ t.flag .n = true := by
  refine ⟨_, rfl, rfl, rfl, ?_, ?_, ?_, ?_, ?_⟩
  · rw [State.flag_advance, State.flag_s_arithFlags]; rfl
  · rw [State.flag_advance, State.flag_z_arithFlags]; rfl
  · rw [State.flag_advance, State.flag_pv_arithFlags]; rfl
  · rw [State.flag_advance, State.flag_c_arithFlags]; rfl
  · rw [State.flag_advance, State.flag_n_arithFlags]; rfl

/-- V-A15 (R160). -/
theorem test_VA15 : ∃ t, step ({ start [(0x0100, 0x9B)] with a := 0x00, e := 0x00, f := 0x01 }) = .next t
    ∧ t.a = 0xFF ∧ t.pc = 0x0101 ∧ t.flag .s = true ∧ t.flag .z = false ∧ t.flag .pv = true ∧ t.flag .c = true ∧ t.flag .n = true := by
  refine ⟨_, rfl, rfl, rfl, ?_, ?_, ?_, ?_, ?_⟩
  · rw [State.flag_advance, State.flag_s_arithFlags]; rfl
  · rw [State.flag_advance, State.flag_z_arithFlags]; rfl
  · rw [State.flag_advance, State.flag_pv_arithFlags]; rfl
  · rw [State.flag_advance, State.flag_c_arithFlags]; rfl
  · rw [State.flag_advance, State.flag_n_arithFlags]; rfl

/-- V-A16 (R161). -/
theorem test_VA16 : ∃ t, step ({ start [(0x0100, 0xDE), (0x0101, 0x01)] with a := 0x10, f := 0x00 }) = .next t
    ∧ t.a = 0x0F ∧ t.pc = 0x0102 ∧ t.flag .s = false ∧ t.flag .z = false ∧ t.flag .pv = false ∧ t.flag .c = false ∧ t.flag .n = true := by
  refine ⟨_, rfl, rfl, rfl, ?_, ?_, ?_, ?_, ?_⟩
  · rw [State.flag_advance, State.flag_s_arithFlags]; rfl
  · rw [State.flag_advance, State.flag_z_arithFlags]; rfl
  · rw [State.flag_advance, State.flag_pv_arithFlags]; rfl
  · rw [State.flag_advance, State.flag_c_arithFlags]; rfl
  · rw [State.flag_advance, State.flag_n_arithFlags]; rfl

/-- V-A18 (R163): logic clears C. -/
theorem test_VA18 : ∃ t, step ({ start [(0x0100, 0xA0)] with a := 0xF0, b := 0x0F, f := 0x01 }) = .next t
    ∧ t.a = 0x00 ∧ t.pc = 0x0101 ∧ t.flag .s = false ∧ t.flag .z = true ∧ t.flag .pv = false ∧ t.flag .c = false := by
  refine ⟨_, rfl, rfl, rfl, ?_, ?_, ?_, ?_⟩
  · rw [State.flag_advance, State.flag_s_logicFlags]; rfl
  · rw [State.flag_advance, State.flag_z_logicFlags]; rfl
  · rw [State.flag_advance, State.flag_pv_logicFlags]; rfl
  · rw [State.flag_advance, State.flag_c_logicFlags]

/-- V-A19 (R164). -/
theorem test_VA19 : ∃ t, step ({ start [(0x0100, 0xE6), (0x0101, 0x80)] with a := 0xFF }) = .next t
    ∧ t.a = 0x80 ∧ t.pc = 0x0102 ∧ t.flag .s = true ∧ t.flag .z = false ∧ t.flag .pv = true ∧ t.flag .c = false := by
  refine ⟨_, rfl, rfl, rfl, ?_, ?_, ?_, ?_⟩
  · rw [State.flag_advance, State.flag_s_logicFlags]; rfl
  · rw [State.flag_advance, State.flag_z_logicFlags]; rfl
  · rw [State.flag_advance, State.flag_pv_logicFlags]; rfl
  · rw [State.flag_advance, State.flag_c_logicFlags]

/-- V-A22 (R167). -/
theorem test_VA22 : ∃ t, step ({ start [(0x0100, 0xEE), (0x0101, 0xF0)] with a := 0x0F }) = .next t
    ∧ t.a = 0xFF ∧ t.pc = 0x0102 ∧ t.flag .s = true ∧ t.flag .z = false ∧ t.flag .pv = true ∧ t.flag .c = false := by
  refine ⟨_, rfl, rfl, rfl, ?_, ?_, ?_, ?_⟩
  · rw [State.flag_advance, State.flag_s_logicFlags]; rfl
  · rw [State.flag_advance, State.flag_z_logicFlags]; rfl
  · rw [State.flag_advance, State.flag_pv_logicFlags]; rfl
  · rw [State.flag_advance, State.flag_c_logicFlags]

/-- V-A25 (R170). -/
theorem test_VA25 : ∃ t, step ({ start [(0x0100, 0xF6), (0x0101, 0x80)] with a := 0x01 }) = .next t
    ∧ t.a = 0x81 ∧ t.pc = 0x0102 ∧ t.flag .s = true ∧ t.flag .z = false ∧ t.flag .pv = true ∧ t.flag .c = false := by
  refine ⟨_, rfl, rfl, rfl, ?_, ?_, ?_, ?_⟩
  · rw [State.flag_advance, State.flag_s_logicFlags]; rfl
  · rw [State.flag_advance, State.flag_z_logicFlags]; rfl
  · rw [State.flag_advance, State.flag_pv_logicFlags]; rfl
  · rw [State.flag_advance, State.flag_c_logicFlags]

/-- V-A27 (R172): CP: A unchanged. -/
theorem test_VA27 : ∃ t, step ({ start [(0x0100, 0xB8)] with a := 0x42, b := 0x42 }) = .next t
    ∧ t.a = 0x42 ∧ t.pc = 0x0101 ∧ t.flag .s = false ∧ t.flag .z = true ∧ t.flag .pv = false ∧ t.flag .c = false ∧ t.flag .n = true := by
  refine ⟨_, rfl, rfl, rfl, ?_, ?_, ?_, ?_, ?_⟩
  · rw [State.flag_advance, State.flag_s_arithFlags]; rfl
  · rw [State.flag_advance, State.flag_z_arithFlags]; rfl
  · rw [State.flag_advance, State.flag_pv_arithFlags]; rfl
  · rw [State.flag_advance, State.flag_c_arithFlags]; rfl
  · rw [State.flag_advance, State.flag_n_arithFlags]; rfl

/-- V-A28 (R173): A<v: C not set, S=1. -/
theorem test_VA28 : ∃ t, step ({ start [(0x0100, 0xFE), (0x0101, 0x20)] with a := 0x10 }) = .next t
    ∧ t.a = 0x10 ∧ t.pc = 0x0102 ∧ t.flag .s = true ∧ t.flag .z = false ∧ t.flag .pv = true ∧ t.flag .c = false ∧ t.flag .n = true := by
  refine ⟨_, rfl, rfl, rfl, ?_, ?_, ?_, ?_, ?_⟩
  · rw [State.flag_advance, State.flag_s_arithFlags]; rfl
  · rw [State.flag_advance, State.flag_z_arithFlags]; rfl
  · rw [State.flag_advance, State.flag_pv_arithFlags]; rfl
  · rw [State.flag_advance, State.flag_c_arithFlags]; rfl
  · rw [State.flag_advance, State.flag_n_arithFlags]; rfl

/-- V-A31 (R175): 0xFF+1 = 0x00, Z=1, C set (D24). -/
theorem test_VA31 : ∃ t, step ({ start [(0x0100, 0x04)] with b := 0xFF }) = .next t
    ∧ t.b = 0x00 ∧ t.pc = 0x0101 ∧ t.flag .s = false ∧ t.flag .z = true ∧ t.flag .pv = false ∧ t.flag .c = true ∧ t.flag .n = false := by
  refine ⟨_, rfl, rfl, rfl, ?_, ?_, ?_, ?_, ?_⟩
  · rw [State.flag_advance, State.flag_s_arithFlags]; rfl
  · rw [State.flag_advance, State.flag_z_arithFlags]; rfl
  · rw [State.flag_advance, State.flag_pv_arithFlags]; rfl
  · rw [State.flag_advance, State.flag_c_arithFlags]; rfl
  · rw [State.flag_advance, State.flag_n_arithFlags]; rfl

/-- V-A33 (R176). -/
theorem test_VA33 : ∃ t, step ({ start [(0x0100, 0x34), (0x4000, 0xFF)] with h := 0x40, l := 0x00 }) = .next t
    ∧ t.memRead 0x4000 = 0x00 ∧ t.pc = 0x0101 ∧ t.flag .s = false ∧ t.flag .z = true ∧ t.flag .pv = false ∧ t.flag .c = true ∧ t.flag .n = false := by
  refine ⟨_, rfl, rfl, rfl, ?_, ?_, ?_, ?_, ?_⟩
  · rw [State.flag_advance, State.flag_s_arithFlags]; rfl
  · rw [State.flag_advance, State.flag_z_arithFlags]; rfl
  · rw [State.flag_advance, State.flag_pv_arithFlags]; rfl
  · rw [State.flag_advance, State.flag_c_arithFlags]; rfl
  · rw [State.flag_advance, State.flag_n_arithFlags]; rfl

/-- V-A34 (R177): 0x00-1 = 0xFF, C not set. -/
theorem test_VA34 : ∃ t, step ({ start [(0x0100, 0x0D)] with c := 0x00 }) = .next t
    ∧ t.c = 0xFF ∧ t.pc = 0x0101 ∧ t.flag .s = true ∧ t.flag .z = false ∧ t.flag .pv = true ∧ t.flag .c = false ∧ t.flag .n = true := by
  refine ⟨_, rfl, rfl, rfl, ?_, ?_, ?_, ?_, ?_⟩
  · rw [State.flag_advance, State.flag_s_arithFlags]; rfl
  · rw [State.flag_advance, State.flag_z_arithFlags]; rfl
  · rw [State.flag_advance, State.flag_pv_arithFlags]; rfl
  · rw [State.flag_advance, State.flag_c_arithFlags]; rfl
  · rw [State.flag_advance, State.flag_n_arithFlags]; rfl

/-- V-A36 (R178). -/
theorem test_VA36 : ∃ t, step ({ start [(0x0100, 0x35), (0x4000, 0x80)] with h := 0x40, l := 0x00 }) = .next t
    ∧ t.memRead 0x4000 = 0x7F ∧ t.pc = 0x0101 ∧ t.flag .s = false ∧ t.flag .z = false ∧ t.flag .pv = false ∧ t.flag .c = false ∧ t.flag .n = true := by
  refine ⟨_, rfl, rfl, rfl, ?_, ?_, ?_, ?_, ?_⟩
  · rw [State.flag_advance, State.flag_s_arithFlags]; rfl
  · rw [State.flag_advance, State.flag_z_arithFlags]; rfl
  · rw [State.flag_advance, State.flag_pv_arithFlags]; rfl
  · rw [State.flag_advance, State.flag_c_arithFlags]; rfl
  · rw [State.flag_advance, State.flag_n_arithFlags]; rfl

/-- V-P1 (R201). -/
theorem test_VP1 : ∃ t, step ({ start [(0x0100, 0xCB)] with a := 0x12, f := 0x41 }) = .next t
    ∧ t.pc = 0x0101 ∧ t.f = 0x41 :=
  ⟨_, rfl, rfl, rfl⟩

/-- V-P5 (R205): prefix no-op then LD HL,0x1234. -/
theorem test_VP5 : ∃ t, Sys2Proof.core.run 2 (start [(0x0100, 0xDD), (0x0101, 0x21), (0x0102, 0x34), (0x0103, 0x12)]) = .next t
    ∧ t.h = 0x12 ∧ t.l = 0x34 ∧ t.pc = 0x0104 ∧ t.f = 0x00 :=
  ⟨_, rfl, rfl, rfl, rfl, rfl⟩

/-- V-L1 (R210): LD A,B. -/
theorem test_VL1 : ∃ t, step ({ start [(0x0100, 0x78)] with b := 0x42 }) = .next t
    ∧ t.a = 0x42 ∧ t.pc = 0x0101 ∧ t.f = 0x00 :=
  ⟨_, rfl, rfl, rfl, rfl⟩

/-- V-L3 (R210): LD H,L. -/
theorem test_VL3 : ∃ t, step ({ start [(0x0100, 0x65)] with h := 0x01, l := 0x02 }) = .next t
    ∧ t.h = 0x02 ∧ t.pc = 0x0101 ∧ t.f = 0x00 :=
  ⟨_, rfl, rfl, rfl, rfl⟩

/-- V-L4 (R211): LD A,5 (source scenario). -/
theorem test_VL4 : ∃ t, step (start [(0x0100, 0x3E), (0x0101, 0x05)]) = .next t
    ∧ t.a = 0x05 ∧ t.pc = 0x0102 ∧ t.f = 0x00 :=
  ⟨_, rfl, rfl, rfl, rfl⟩

/-- V-L7 (R212): LD H,(HL): address read before H written. -/
theorem test_VL7 : ∃ t, step ({ start [(0x0100, 0x66), (0x4000, 0x77)] with h := 0x40, l := 0x00 }) = .next t
    ∧ t.h = 0x77 ∧ t.pc = 0x0101 ∧ t.f = 0x00 :=
  ⟨_, rfl, rfl, rfl, rfl⟩

/-- V-L8 (R213): LD (HL),B. -/
theorem test_VL8 : ∃ t, step ({ start [(0x0100, 0x70)] with h := 0x40, l := 0x00, b := 0x3C }) = .next t
    ∧ t.memRead 0x4000 = 0x3C ∧ t.pc = 0x0101 ∧ t.f = 0x00 :=
  ⟨_, rfl, rfl, rfl, rfl⟩

/-- V-L9 (R213): LD (HL),L writes 0x00. -/
theorem test_VL9 : ∃ t, step ({ start [(0x0100, 0x75)] with h := 0x40, l := 0x00 }) = .next t
    ∧ t.pc = 0x0101 ∧ t.f = 0x00 :=
  ⟨_, rfl, rfl, rfl⟩

/-- V-L11 (R214, R67): overwrites its own opcode byte after fetch; pc still advances by 2. -/
theorem test_VL11 : ∃ t, step ({ start [(0x0100, 0x36), (0x0101, 0x99)] with h := 0x01, l := 0x00 }) = .next t
    ∧ t.memRead 0x0100 = 0x99 ∧ t.pc = 0x0102 ∧ t.f = 0x00 :=
  ⟨_, rfl, rfl, rfl, rfl⟩

/-- V-L12 (R215). -/
theorem test_VL12 : ∃ t, step ({ start [(0x0100, 0x0A), (0x2000, 0x11)] with b := 0x20, c := 0x00 }) = .next t
    ∧ t.a = 0x11 ∧ t.pc = 0x0101 ∧ t.f = 0x00 :=
  ⟨_, rfl, rfl, rfl, rfl⟩

/-- V-L13 (R216). -/
theorem test_VL13 : ∃ t, step ({ start [(0x0100, 0x1A), (0x2001, 0x22)] with d := 0x20, e := 0x01 }) = .next t
    ∧ t.a = 0x22 ∧ t.pc = 0x0101 ∧ t.f = 0x00 :=
  ⟨_, rfl, rfl, rfl, rfl⟩

/-- V-L15 (R217, R51): address 0xFFFF exists (C2). -/
theorem test_VL15 : ∃ t, step (start [(0x0100, 0x3A), (0x0101, 0xFF), (0x0102, 0xFF), (0xFFFF, 0x5E)]) = .next t
    ∧ t.a = 0x5E ∧ t.pc = 0x0103 ∧ t.f = 0x00 :=
  ⟨_, rfl, rfl, rfl, rfl⟩

/-- V-L16 (R218). -/
theorem test_VL16 : ∃ t, step ({ start [(0x0100, 0x02)] with b := 0xA0, c := 0x00, a := 0x5A }) = .next t
    ∧ t.memRead 0xA000 = 0x5A ∧ t.pc = 0x0101 ∧ t.f = 0x00 :=
  ⟨_, rfl, rfl, rfl, rfl⟩

/-- V-L17 (R219). -/
theorem test_VL17 : ∃ t, step ({ start [(0x0100, 0x12)] with d := 0xA0, e := 0x01, a := 0x6B }) = .next t
    ∧ t.memRead 0xA001 = 0x6B ∧ t.pc = 0x0101 ∧ t.f = 0x00 :=
  ⟨_, rfl, rfl, rfl, rfl⟩

/-- V-L18 (R220). -/
theorem test_VL18 : ∃ t, step ({ start [(0x0100, 0x32), (0x0102, 0x90)] with a := 0x7C }) = .next t
    ∧ t.memRead 0x9000 = 0x7C ∧ t.pc = 0x0103 ∧ t.f = 0x00 :=
  ⟨_, rfl, rfl, rfl, rfl⟩

/-- V-S1 (R240): LD BC,0x1234. -/
theorem test_VS1 : ∃ t, step (start [(0x0100, 0x01), (0x0101, 0x34), (0x0102, 0x12)]) = .next t
    ∧ t.b = 0x12 ∧ t.c = 0x34 ∧ t.pc = 0x0103 ∧ t.f = 0x00 :=
  ⟨_, rfl, rfl, rfl, rfl, rfl⟩

/-- V-S4 (R240): LD SP,0xF000. -/
theorem test_VS4 : ∃ t, step ({ start [(0x0100, 0x31), (0x0102, 0xF0)] with sp := 0x0000 }) = .next t
    ∧ t.sp = 0xF000 ∧ t.pc = 0x0103 ∧ t.f = 0x00 :=
  ⟨_, rfl, rfl, rfl, rfl⟩

/-- V-S6 (R241, R53): high byte from 0x0000 (wrap). -/
theorem test_VS6 : ∃ t, step ({ start [(0x0000, 0x12), (0x0200, 0x2A), (0x0201, 0xFF), (0x0202, 0xFF), (0xFFFF, 0x34)] with pc := 0x0200 }) = .next t
    ∧ t.h = 0x12 ∧ t.l = 0x34 ∧ t.pc = 0x0203 ∧ t.f = 0x00 :=
  ⟨_, rfl, rfl, rfl, rfl, rfl⟩

/-- V-S7 (R242). -/
theorem test_VS7 : ∃ t, step ({ start [(0x0100, 0x22), (0x0102, 0x90)] with h := 0xBE, l := 0xEF }) = .next t
    ∧ t.memRead 0x9000 = 0xEF ∧ t.memRead 0x9001 = 0xBE ∧ t.pc = 0x0103 ∧ t.f = 0x00 :=
  ⟨_, rfl, rfl, rfl, rfl, rfl⟩

/-- V-S8 (R243). -/
theorem test_VS8 : ∃ t, step ({ start [(0x0100, 0xF9)] with h := 0x12, l := 0x34, sp := 0x8000 }) = .next t
    ∧ t.sp = 0x1234 ∧ t.pc = 0x0101 ∧ t.f = 0x00 :=
  ⟨_, rfl, rfl, rfl, rfl⟩

/-- V-S9 (R244). -/
theorem test_VS9 : ∃ t, step ({ start [(0x0100, 0xC5)] with b := 0x12, c := 0x34, sp := 0x8000 }) = .next t
    ∧ t.sp = 0x7FFE ∧ t.memRead 0x7FFE = 0x34 ∧ t.memRead 0x7FFF = 0x12 ∧ t.pc = 0x0101 ∧ t.f = 0x00 :=
  ⟨_, rfl, rfl, rfl, rfl, rfl, rfl⟩

/-- V-S12 (R244): F pushed with bits 3, 5. -/
theorem test_VS12 : ∃ t, step ({ start [(0x0100, 0xF5)] with a := 0x77, f := 0xFF, sp := 0x8000 }) = .next t
    ∧ t.sp = 0x7FFE ∧ t.memRead 0x7FFE = 0xFF ∧ t.memRead 0x7FFF = 0x77 ∧ t.pc = 0x0101 ∧ t.f = 0xFF :=
  ⟨_, rfl, rfl, rfl, rfl, rfl, rfl⟩

/-- V-S16 (R245, R29): POP AF: F=0x28 sets only bits 3 and 5. -/
theorem test_VS16 : ∃ t, step ({ start [(0x0100, 0xF1), (0x7FFE, 0x28), (0x7FFF, 0x77)] with sp := 0x7FFE }) = .next t
    ∧ t.a = 0x77 ∧ t.sp = 0x8000 ∧ t.pc = 0x0101 ∧ t.f = 0x28 :=
  ⟨_, rfl, rfl, rfl, rfl, rfl⟩

/-- V-S17 (R244, R245): PUSH BC; POP DE copies BC to DE. -/
theorem test_VS17 : ∃ t, Sys2Proof.core.run 2 ({ start [(0x0100, 0xC5), (0x0101, 0xD1)] with b := 0x12, c := 0x34, sp := 0x8000 }) = .next t
    ∧ t.d = 0x12 ∧ t.e = 0x34 ∧ t.memRead 0x7FFE = 0x34 ∧ t.memRead 0x7FFF = 0x12 ∧ t.pc = 0x0102 ∧ t.f = 0x00 :=
  ⟨_, rfl, rfl, rfl, rfl, rfl, rfl, rfl⟩

/-- V-S18 (R246). -/
theorem test_VS18 : ∃ t, step ({ start [(0x0100, 0xEB)] with d := 0x11, e := 0x11, h := 0x22, l := 0x22 }) = .next t
    ∧ t.d = 0x22 ∧ t.e = 0x22 ∧ t.h = 0x11 ∧ t.l = 0x11 ∧ t.pc = 0x0101 ∧ t.f = 0x00 :=
  ⟨_, rfl, rfl, rfl, rfl, rfl, rfl, rfl⟩

/-- V-S19 (R247). -/
theorem test_VS19 : ∃ t, step ({ start [(0x0100, 0xE3), (0x8000, 0x78), (0x8001, 0x56)] with h := 0x12, l := 0x34, sp := 0x8000 }) = .next t
    ∧ t.h = 0x56 ∧ t.l = 0x78 ∧ t.memRead 0x8000 = 0x34 ∧ t.memRead 0x8001 = 0x12 ∧ t.pc = 0x0101 ∧ t.f = 0x00 :=
  ⟨_, rfl, rfl, rfl, rfl, rfl, rfl, rfl⟩

/-- V-S20 (R248): EX AF,AF' refused. -/
theorem test_VS20 : ∃ t, step ({ start [(0x0100, 0x08)] with a := 0x12 }) = .next t
    ∧ t.pc = 0x0100 ∧ t.fault = some (.unmodelledOpcode 0x0100 0x08) ∧ t.f = 0x00 :=
  ⟨_, rfl, rfl, rfl, rfl⟩

/-- V-S21 (R249): EXX refused. -/
theorem test_VS21 : ∃ t, step ({ start [(0x0100, 0xD9)] with b := 0x12 }) = .next t
    ∧ t.pc = 0x0100 ∧ t.fault = some (.unmodelledOpcode 0x0100 0xD9) ∧ t.f = 0x00 :=
  ⟨_, rfl, rfl, rfl, rfl⟩

/-- V-M1 (R270): DAA refused. -/
theorem test_VM1 : ∃ t, step ({ start [(0x0100, 0x27)] with a := 0x15 }) = .next t
    ∧ t.pc = 0x0100 ∧ t.fault = some (.unmodelledOpcode 0x0100 0x27) ∧ t.f = 0x00 :=
  ⟨_, rfl, rfl, rfl, rfl⟩

/-- V-M2 (R271): CPL: S Z PV C kept. -/
theorem test_VM2 : ∃ t, step ({ start [(0x0100, 0x2F)] with a := 0x5A, f := 0xC5 }) = .next t
    ∧ t.a = 0xA5 ∧ t.pc = 0x0101 ∧ t.flag .s = true ∧ t.flag .z = true ∧ t.flag .pv = true ∧ t.flag .c = true := by
  refine ⟨_, rfl, rfl, rfl, ?_, ?_, ?_, ?_⟩
  · rw [State.flag_advance, State.flag_s_drawHN]; rfl
  · rw [State.flag_advance, State.flag_z_drawHN]; rfl
  · rw [State.flag_advance, State.flag_pv_drawHN]; rfl
  · rw [State.flag_advance, State.flag_c_drawHN]; rfl

/-- V-M3 (R272). -/
theorem test_VM3 : ∃ t, step ({ start [(0x0100, 0x37)] with f := 0x00 }) = .next t
    ∧ t.pc = 0x0101 ∧ t.flag .s = false ∧ t.flag .z = false ∧ t.flag .pv = false ∧ t.flag .c = true := by
  refine ⟨_, rfl, rfl, ?_, ?_, ?_, ?_⟩
  · rw [State.flag_advance, State.flag_s_carryFlags]; rfl
  · rw [State.flag_advance, State.flag_z_carryFlags]; rfl
  · rw [State.flag_advance, State.flag_pv_carryFlags]; rfl
  · rw [State.flag_advance, State.flag_c_carryFlags]

/-- V-M4 (R273). -/
theorem test_VM4 : ∃ t, step ({ start [(0x0100, 0x3F)] with f := 0x01 }) = .next t
    ∧ t.pc = 0x0101 ∧ t.flag .s = false ∧ t.flag .z = false ∧ t.flag .pv = false ∧ t.flag .c = false := by
  refine ⟨_, rfl, rfl, ?_, ?_, ?_, ?_⟩
  · rw [State.flag_advance, State.flag_s_carryFlags]; rfl
  · rw [State.flag_advance, State.flag_z_carryFlags]; rfl
  · rw [State.flag_advance, State.flag_pv_carryFlags]; rfl
  · rw [State.flag_advance, State.flag_c_carryFlags]; rfl

/-- V-M7 (R274): carry out of bit 15; Z not set. -/
theorem test_VM7 : ∃ t, step ({ start [(0x0100, 0x19)] with h := 0xFF, l := 0xFF, d := 0x00, e := 0x01, f := 0x00 }) = .next t
    ∧ t.h = 0x00 ∧ t.l = 0x00 ∧ t.pc = 0x0101 ∧ t.flag .s = false ∧ t.flag .z = false ∧ t.flag .pv = false ∧ t.flag .c = true := by
  refine ⟨_, rfl, rfl, rfl, rfl, ?_, ?_, ?_, ?_⟩
  · rw [State.flag_advance, State.flag_s_carryFlags]; rfl
  · rw [State.flag_advance, State.flag_z_carryFlags]; rfl
  · rw [State.flag_advance, State.flag_pv_carryFlags]; rfl
  · rw [State.flag_advance, State.flag_c_carryFlags]; rfl

/-- V-M8 (R274): C cleared (D31). -/
theorem test_VM8 : ∃ t, step ({ start [(0x0100, 0x19)] with h := 0x00, l := 0x01, d := 0x00, e := 0x01, f := 0x01 }) = .next t
    ∧ t.l = 0x02 ∧ t.pc = 0x0101 ∧ t.flag .s = false ∧ t.flag .z = false ∧ t.flag .pv = false ∧ t.flag .c = false := by
  refine ⟨_, rfl, rfl, rfl, ?_, ?_, ?_, ?_⟩
  · rw [State.flag_advance, State.flag_s_carryFlags]; rfl
  · rw [State.flag_advance, State.flag_z_carryFlags]; rfl
  · rw [State.flag_advance, State.flag_pv_carryFlags]; rfl
  · rw [State.flag_advance, State.flag_c_carryFlags]; rfl

/-- V-M12 (R275): INC SP wraps; flags unchanged. -/
theorem test_VM12 : ∃ t, step ({ start [(0x0100, 0x33)] with sp := 0xFFFF }) = .next t
    ∧ t.sp = 0x0000 ∧ t.pc = 0x0101 ∧ t.f = 0x00 :=
  ⟨_, rfl, rfl, rfl, rfl⟩

/-- V-M13 (R276): DEC DE wraps; Z not set. -/
theorem test_VM13 : ∃ t, step ({ start [(0x0100, 0x1B)] with d := 0x00, e := 0x00, f := 0x00 }) = .next t
    ∧ t.d = 0xFF ∧ t.e = 0xFF ∧ t.pc = 0x0101 ∧ t.f = 0x00 :=
  ⟨_, rfl, rfl, rfl, rfl, rfl⟩

/-- V-M16 (R277): C cleared. -/
theorem test_VM16 : ∃ t, step ({ start [(0x0100, 0x07)] with a := 0x40, f := 0x01 }) = .next t
    ∧ t.a = 0x80 ∧ t.pc = 0x0101 ∧ t.flag .s = false ∧ t.flag .z = false ∧ t.flag .pv = false ∧ t.flag .c = false := by
  refine ⟨_, rfl, rfl, rfl, ?_, ?_, ?_, ?_⟩
  · rw [State.flag_advance, State.flag_s_carryFlags]; rfl
  · rw [State.flag_advance, State.flag_z_carryFlags]; rfl
  · rw [State.flag_advance, State.flag_pv_carryFlags]; rfl
  · rw [State.flag_advance, State.flag_c_carryFlags]; rfl

/-- V-M17 (R278). -/
theorem test_VM17 : ∃ t, step ({ start [(0x0100, 0x0F)] with a := 0x81 }) = .next t
    ∧ t.a = 0xC0 ∧ t.pc = 0x0101 ∧ t.flag .s = false ∧ t.flag .z = false ∧ t.flag .pv = false ∧ t.flag .c = true := by
  refine ⟨_, rfl, rfl, rfl, ?_, ?_, ?_, ?_⟩
  · rw [State.flag_advance, State.flag_s_carryFlags]; rfl
  · rw [State.flag_advance, State.flag_z_carryFlags]; rfl
  · rw [State.flag_advance, State.flag_pv_carryFlags]; rfl
  · rw [State.flag_advance, State.flag_c_carryFlags]; rfl

/-- V-M18 (R279): RLA: old C into bit 0. -/
theorem test_VM18 : ∃ t, step ({ start [(0x0100, 0x17)] with a := 0x80, f := 0x00 }) = .next t
    ∧ t.a = 0x00 ∧ t.pc = 0x0101 ∧ t.flag .s = false ∧ t.flag .z = false ∧ t.flag .pv = false ∧ t.flag .c = true := by
  refine ⟨_, rfl, rfl, rfl, ?_, ?_, ?_, ?_⟩
  · rw [State.flag_advance, State.flag_s_carryFlags]; rfl
  · rw [State.flag_advance, State.flag_z_carryFlags]; rfl
  · rw [State.flag_advance, State.flag_pv_carryFlags]; rfl
  · rw [State.flag_advance, State.flag_c_carryFlags]; rfl

/-- V-M21 (R280): RRA: Z not written (A=0x80). -/
theorem test_VM21 : ∃ t, step ({ start [(0x0100, 0x1F)] with a := 0x00, f := 0x01 }) = .next t
    ∧ t.a = 0x80 ∧ t.pc = 0x0101 ∧ t.flag .s = false ∧ t.flag .z = false ∧ t.flag .pv = false ∧ t.flag .c = false := by
  refine ⟨_, rfl, rfl, rfl, ?_, ?_, ?_, ?_⟩
  · rw [State.flag_advance, State.flag_s_carryFlags]; rfl
  · rw [State.flag_advance, State.flag_z_carryFlags]; rfl
  · rw [State.flag_advance, State.flag_pv_carryFlags]; rfl
  · rw [State.flag_advance, State.flag_c_carryFlags]; rfl

/-- V-I1 (R302): OUT (0x0F),A. -/
theorem test_VI1 : ∃ t, step ({ start [(0x0100, 0xD3), (0x0101, 0x0F)] with a := 0x5A }) = .next t
    ∧ t.ports[15] = 0x5A ∧ t.pc = 0x0102 ∧ t.f = 0x00 :=
  ⟨_, rfl, rfl, rfl, rfl⟩

/-- V-I2 (R301): IN A,(0x00). -/
theorem test_VI2 : ∃ t, step ({ start [(0x0100, 0xDB)] with ports := (Vector.replicate 16 0x00).set 0 0x33 }) = .next t
    ∧ t.a = 0x33 ∧ t.pc = 0x0102 ∧ t.f = 0x00 :=
  ⟨_, rfl, rfl, rfl, rfl⟩

/-- V-I3 (R302, R402): port 16: fault, nothing written. -/
theorem test_VI3 : ∃ t, step ({ start [(0x0100, 0xD3), (0x0101, 0x10)] with a := 0x5A }) = .next t
    ∧ t.pc = 0x0100 ∧ t.fault = some (.portOutOfRange 0x0100 0x10) ∧ t.f = 0x00 :=
  ⟨_, rfl, rfl, rfl, rfl⟩

/-- V-I4 (R301, R402): port 255: fault, A unchanged. -/
theorem test_VI4 : ∃ t, step ({ start [(0x0100, 0xDB), (0x0101, 0xFF)] with a := 0x5A }) = .next t
    ∧ t.pc = 0x0100 ∧ t.fault = some (.portOutOfRange 0x0100 0xFF) ∧ t.f = 0x00 :=
  ⟨_, rfl, rfl, rfl, rfl⟩

/-! ## Witnesses of the statements' hypotheses -/

theorem witness_DecodeOfEncode : (Instr.nop).WellFormed ∧ (Instr.jr_e (-128)).WellFormed ∧ (Instr.djnz_e 127).WellFormed := by
  decide

theorem witness_StepRunsDecodedInstruction : ∃ (s : State) (i : Instr) (rest : List Byte), s.fault = none ∧ i.WellFormed
    ∧ decodeBytes [s.memRead s.pc, s.memRead (s.pc + 1), s.memRead (s.pc + 2)] = .ok (i, rest) :=
  ⟨start [(0x0100, 0x3E), (0x0101, 0x05)], .ldA_n 0x05, [0x00], rfl, rfl, rfl⟩

theorem witness_FaultedCoreQuiescent : ∃ s : State, s.Faulted :=
  ⟨{ State.reset with fault := some (.unmodelledOpcode 0x0000 0x27) }, by decide⟩

theorem witness_HaltedCoreStays : ∃ s : State, s.Halted := ⟨start [(0x0100, 0x76)], by decide⟩

theorem witness_RomLoadContract_fits : ∃ (image : List Byte) (i : Nat) (a : Word),
    image.length ≤ 32767 ∧ i < image.length ∧ image.length ≤ a.toNat :=
  ⟨List.replicate 32767 0x00, 32766, 0x7FFF, by rw [List.length_replicate], by rw [List.length_replicate]; decide,
    by rw [List.length_replicate]; decide⟩

theorem witness_RomLoadContract_large : ∃ image : List Byte, 32767 < image.length :=
  ⟨List.replicate 32768 0x00, by rw [List.length_replicate]; decide⟩

theorem witness_WordAccessLittleEndian : ∃ a b : Word, b ≠ a ∧ b ≠ a + 1 := ⟨0xFFFF, 0x0001, by decide⟩

theorem witness_PushPopRoundTrip : ∃ (s : State) (a : Word), a ≠ s.sp - 1 ∧ a ≠ s.sp - 2 :=
  ⟨{ start [] with sp := 0x0001 }, 0x0001, by decide⟩

theorem witness_MemoryStaysCanonical : (∃ (i : Instr) (s t : State), s.mem.Wf ∧ exec i s = .next t)
    ∧ (∃ s t : State, s.mem.Wf ∧ step s = .next t)
    ∧ ∃ (act : HostAction) (s t : State), s.mem.Wf ∧ hostAct act s = .next t :=
  ⟨⟨.incmHL, start [(0xFFFF, 0x01)], _, by decide, rfl⟩, ⟨start [(0x0100, 0x34), (0xFFFF, 0x01)], _, by decide, rfl⟩,
    ⟨.writeMem 0xFFFF 0x00, start [(0xFFFF, 0x01)], _, by decide, rfl⟩⟩

theorem witness_CanonicalMemoryDeterminedByReads : ∃ s t : State, s.mem.Wf ∧ t.mem.Wf ∧ (∀ a : Word, s.memRead a = t.memRead a) :=
  ⟨start [(0xFFFF, 0x01)], { start [(0xFFFF, 0x01)] with a := 0x01 }, by decide, by decide, fun _ => rfl⟩

theorem witness_IndexRegistersNeverChange : ∃ s t : State, step s = .next t := ⟨start [(0x0100, 0xDD)], _, rfl⟩

theorem witness_FaultEntryIsPrecise : ∃ s t : State, step s = .next t ∧ t.fault ≠ s.fault :=
  ⟨start [(0x0100, 0x27)], _, rfl, by decide⟩

theorem witness_FaultRecordedExactlyWhen_port : ∃ s t : State, s.fault = none ∧ step s = .next t
    ∧ t.fault = some (.portOutOfRange 0x0100 0x10) := ⟨start [(0x0100, 0xDB), (0x0101, 0x10)], _, rfl, rfl, rfl⟩

theorem witness_FaultRecordedExactlyWhen_noFault : ∃ s t : State, s.fault = none ∧ step s = .next t ∧ t.fault = none :=
  ⟨start [(0x0100, 0xDB), (0x0101, 0x0F)], _, rfl, rfl, rfl⟩

theorem witness_FaultRecordedExactlyWhen_opcode : ∃ s t : State, s.fault = none ∧ step s = .next t
    ∧ t.fault = some (.unmodelledOpcode 0x0100 0x08) := ⟨start [(0x0100, 0x08)], _, rfl, rfl, rfl⟩

theorem witness_PortsWrittenOnlyByOut : (∃ (i : Instr) (s t : State), exec i s = .next t ∧ ∀ n, i ≠ .outmn_A n)
    ∧ ∃ (i : Instr) (s t : State) (n : Byte) (k : Nat), exec i s = .next t ∧ k < 16 ∧ i = .outmn_A n ∧ k ≠ n.toNat :=
  ⟨⟨.inA_mn 0x0F, start [], _, rfl, fun _ h => by cases h⟩, ⟨.outmn_A 0x0F, start [], _, 0x0F, 14, rfl, by decide, rfl, by decide⟩⟩

theorem witness_MemoryFrame : (∃ (i : Instr) (s t : State) (a : Word), exec i s = .next t ∧ a ∉ storeAddrs i s)
    ∧ ∃ (i : Instr) (s t : State), exec i s = .next t ∧ storeAddrs i s = [] :=
  ⟨⟨.pushBC, { start [] with sp := 0x0001 }, _, 0x0001, rfl, by decide⟩, ⟨.cpmHL, start [], _, rfl, rfl⟩⟩

theorem witness_RegisterFrame : ∃ (i : Instr) (s t : State) (r : Reg8),
    exec i s = .next t ∧ r ∉ destRegs i ∧ writesSP i = false := ⟨.exmSP_HL, start [], _, .a, rfl, by decide, rfl⟩

/-- Each row of the flag table has an instruction that completes. -/
theorem witness_FlagTable : ∀ row : FlagRow, ∃ (i : Instr) (s t : State), flagRow i = row ∧ exec i s = .next t
  | .addFamily => ⟨.incmHL, start [], _, rfl, rfl⟩
  | .subFamily => ⟨.cp_n 0x01, start [], _, rfl, rfl⟩
  | .logic => ⟨.xorA, start [], _, rfl, rfl⟩
  | .cpl => ⟨.cpl, start [], _, rfl, rfl⟩
  | .scf => ⟨.scf, start [], _, rfl, rfl⟩
  | .ccf => ⟨.ccf, start [], _, rfl, rfl⟩
  | .carryOnly => ⟨.addHL_SP, start [], _, rfl, rfl⟩
  | .popAF => ⟨.popAF, start [], _, rfl, rfl⟩
  | .unchanged => ⟨.decSP, start [], _, rfl, rfl⟩

theorem witness_UnusedFlagBitsOnlyByPopAF : ∃ s t : State, step s = .next t ∧ ¬ UnusedKept s t :=
  ⟨start [(0x0100, 0xF1), (0x8000, 0x28)], _, rfl, fun h => absurd h.1 (by decide)⟩

theorem witness_PcAdvancesByLength : ∃ s t : State,
    s.fault = none ∧ isTransfer s.fetch = false ∧ s.fetch ≠ .halt ∧ step s = .next t ∧ t.fault = none :=
  ⟨{ start [(0xFFFF, 0x3E)] with pc := 0xFFFF }, _, rfl, rfl, by decide, rfl, rfl⟩

theorem witness_DrawnFlagsDoNotLeak : ∃ (i : Instr) (s s' t t' : State),
    i ≠ .pushAF ∧ AgreeButHN s s' ∧ exec i s = .next t ∧ exec i s' = .next t' := by
  refine ⟨.adcA_n 0xFF, start [], { start [] with f := 0x12, draws := 7 }, _, _, by decide, ⟨rfl, ?_⟩, rfl, rfl⟩
  intro j h4 h1
  by_cases h : j < 8
  · interval_cases j <;> first | rfl | contradiction
  · rw [BitVec.getLsbD_of_ge _ _ (by omega), BitVec.getLsbD_of_ge _ _ (by omega)]

theorem witness_CallPushesReturnAddress : (∃ (i : Instr) (s : State), ∃ cc, i = Form.callCc cc 0xFFFF ∧ s.cond cc = true)
    ∧ ∃ (cc : Cond) (s : State), s.cond cc = false :=
  ⟨⟨_, start [], .po, rfl, rfl⟩, ⟨.m, start [], rfl⟩⟩

theorem witness_CallThenReturn_call : ∃ (nn : Word) (s t u : State), exec (.call_nn nn) s = .next t ∧ u.sp = t.sp
    ∧ u.memRead u.sp = t.memRead t.sp ∧ u.memRead (u.sp + 1) = t.memRead (t.sp + 1) :=
  ⟨0x3000, { start [] with sp := 0x0001 }, _, _, rfl, rfl, rfl, rfl⟩

theorem witness_CallThenReturn_rst : ∃ (k : Fin 8) (s t u : State), exec (Form.rst k) s = .next t ∧ u.sp = t.sp
    ∧ u.memRead u.sp = t.memRead t.sp ∧ u.memRead (u.sp + 1) = t.memRead (t.sp + 1) :=
  ⟨7, { start [] with sp := 0x0001 }, _, _, rfl, rfl, rfl, rfl⟩

theorem witness_addressesBesideStack : ∃ (s : State) (a : Word), a ≠ s.sp - 1 ∧ a ≠ s.sp - 2 :=
  ⟨{ start [] with sp := 0x0000 }, 0x0000, by decide⟩

theorem witness_IncDecMemoryResult : ∃ (s : State) (a : Word), a ≠ s.hl := ⟨{ start [] with h := 0xFF, l := 0xFF }, 0x0000, by decide⟩

theorem witness_LoadRegister : (∃ q dst : Reg8, q ≠ dst) ∧ ∃ dst src : Reg8, dst = src := ⟨⟨.a, .b, by decide⟩, .c, .c, rfl⟩

theorem witness_IncDecPairResult : ∃ q r : RegDD, q ≠ r := ⟨.sp, .hl, by decide⟩

theorem witness_HostInteractions : (∃ q r : Reg8, q ≠ r) ∧ ∃ (s : State) (act : HostAction) (t : State),
    (∀ p, act ≠ .reset p) ∧ s.fault ≠ none ∧ hostAct act s = .next t :=
  ⟨⟨.d, .e, by decide⟩, { start [] with fault := some (.unmodelledOpcode 0x0100 0x27) }, .writeReg16 .pc 0x0101, _,
    (fun _ h => by cases h), by decide, rfl⟩

/-- The host moves a core to another address between steps (R457): the next step runs there. -/
theorem test_host_writePC : ∃ t u, hostAct (.writeReg16 .pc 0x0101) (start [(0x0100, 0x76), (0x0101, 0x3E), (0x0102, 0x05)]) = .next t
    ∧ step t = .next u ∧ u.a = 0x05 ∧ u.pc = 0x0103 := ⟨_, _, rfl, rfl, rfl, rfl⟩

theorem witness_Ports : (∃ n : Byte, n.toNat < 16) ∧ ∃ n : Byte, 16 ≤ n.toNat := ⟨⟨0x0F, by decide⟩, 0x10, by decide⟩

end Sys2Proof.Tests
end

/-! Register pairs as views of the 8-bit registers (spec/10_state.md R20, R21, R23). -/
namespace Sys2Proof.Machine

/-- The frame of a register write as one equation (R21): only the seven general registers can differ. -/
theorem State.set8_frame (s : State) (r : Reg8) (v : Byte) :
    s.set8 r v = { s.set8 r v with
      f := s.f, ix := s.ix, iy := s.iy, sp := s.sp, pc := s.pc, mem := s.mem, ports := s.ports, fault := s.fault } := by
  cases r <;> rfl

/-- Settles O14: the accessors, the pair reads and the pair writes are the model's equations; a register read after a write
is `State.get8_set8`, its frame `State.set8_frame`, and a pair read back after a write is `State.get16_set16`. -/
theorem registerPairViews : Obligations.RegisterPairViews := by
  unfold Obligations.RegisterPairViews
  refine ⟨?accessors, ?registerWrite, ?pairRead, ?pairWrite, ?pairRoundTrip⟩
  case accessors => exact fun s => ⟨rfl, rfl, rfl, rfl, rfl, rfl, rfl⟩
  case registerWrite => exact fun s r q v => ⟨s.get8_set8 r q v, s.set8_frame r v⟩
  case pairRead => exact fun s => ⟨rfl, rfl, rfl, rfl, rfl, rfl, rfl⟩
  case pairWrite => exact fun s v => ⟨rfl, rfl, rfl, rfl⟩
  case pairRoundTrip => exact fun s p v => s.get16_set16 p v

end Sys2Proof.Machine

/-! Memory as storage (spec/20_memory.md R52). -/
namespace Sys2Proof.Machine

/-- The frame of a byte write as one equation (R52): only memory can differ. -/
theorem State.memWrite_frame (s : State) (a : Word) (v : Byte) :
    s.memWrite a v = { s with mem := (s.memWrite a v).mem } := rfl

/-- Settles O11: what memory reads as after a write is `State.memRead_memWrite`, the rest of the state
`State.memWrite_frame`. -/
theorem byteReadAfterWrite : Obligations.ByteReadAfterWrite := by
  unfold Obligations.ByteReadAfterWrite
  exact fun s a b v => ⟨s.memRead_memWrite a b v, s.memWrite_frame a v⟩

end Sys2Proof.Machine

/-! NOP (spec/40_dispatch.md R105). -/
namespace Sys2Proof.Machine

/-- NOP's effect is the program counter's move over its one byte (R105). -/
theorem exec_nop (s : State) : exec .nop s = .next (s.advance 1) := rfl

/-- The frame of `advance` as one equation (R102): only the program counter can differ. -/
theorem State.advance_frame (s : State) (k : Word) : s.advance k = { s with pc := s.pc + k } := rfl

/-- Settles O29: NOP's byte is a fixed word of the encoder, its effect is `exec_nop`, and what that leaves unchanged
`State.advance_frame`. -/
theorem nopAdvancesPcOnly : Obligations.NopAdvancesPcOnly := by
  unfold Obligations.NopAdvancesPcOnly
  refine ⟨?encoding, ?effect⟩
  case encoding => rfl
  case effect =>
    intro s
    rw [exec_nop, State.advance_frame]

end Sys2Proof.Machine

/-! The bytes of the forms by the fields of their opcode byte (spec/30_encoding.md R81, R84 to R88). -/
namespace Sys2Proof.Machine

theorem encode_ld (d r : Operand8) : encode (Form.ld d r) = [1#2 ++ d.code ++ r.code] := by
  match d, r with
  | .reg q, .reg r => cases q <;> cases r <;> rfl
  | .reg q, .mHL => cases q <;> rfl
  | .mHL, .reg r => cases r <;> rfl
  | .mHL, .mHL => rfl

theorem encode_ldImm (d : Operand8) (n : Byte) : encode (Form.ldImm d n) = [0#2 ++ d.code ++ 6#3, n] := by
  match d with
  | .reg r => cases r <;> rfl
  | .mHL => rfl

theorem encode_inc (d : Operand8) : encode (Form.inc d) = [0#2 ++ d.code ++ 4#3] := by
  match d with
  | .reg r => cases r <;> rfl
  | .mHL => rfl

theorem encode_dec (d : Operand8) : encode (Form.dec d) = [0#2 ++ d.code ++ 5#3] := by
  match d with
  | .reg r => cases r <;> rfl
  | .mHL => rfl

theorem encode_alu_op (op : AluOp) (o : Operand8) : encode (Form.alu op (.op o)) = [2#2 ++ op.code ++ o.code] := by
  match o with
  | .reg r => cases op <;> cases r <;> rfl
  | .mHL => cases op <;> rfl

theorem encode_alu_imm (op : AluOp) (n : Byte) : encode (Form.alu op (.imm n)) = [3#2 ++ op.code ++ 6#3, n] := by
  cases op <;> rfl

theorem encode_ldDD (r : RegDD) (nn : Word) :
    encode (Form.ldDD r nn) = [0#2 ++ r.code ++ 1#4, loByte nn, hiByte nn] := by cases r <;> rfl

theorem encode_addHL (r : RegDD) : encode (Form.addHL r) = [0#2 ++ r.code ++ 9#4] := by cases r <;> rfl

theorem encode_incDD (r : RegDD) : encode (Form.incDD r) = [0#2 ++ r.code ++ 3#4] := by cases r <;> rfl

theorem encode_decDD (r : RegDD) : encode (Form.decDD r) = [0#2 ++ r.code ++ 11#4] := by cases r <;> rfl

theorem encode_push (p : RegQQ) : encode (Form.push p) = [3#2 ++ p.code ++ 5#4] := by cases p <;> rfl

theorem encode_pop (p : RegQQ) : encode (Form.pop p) = [3#2 ++ p.code ++ 1#4] := by cases p <;> rfl

theorem encode_jpCc (cc : Cond) (nn : Word) :
    encode (Form.jpCc cc nn) = [3#2 ++ cc.code ++ 2#3, loByte nn, hiByte nn] := by cases cc <;> rfl

theorem encode_callCc (cc : Cond) (nn : Word) :
    encode (Form.callCc cc nn) = [3#2 ++ cc.code ++ 4#3, loByte nn, hiByte nn] := by cases cc <;> rfl

theorem encode_retCc (cc : Cond) : encode (Form.retCc cc) = [3#2 ++ cc.code ++ 0#3] := by cases cc <;> rfl

theorem encode_jrCc (cc : CondJR) (e : Int) : encode (Form.jrCc cc e) = [1#3 ++ cc.code ++ 0#3, dispByte e] := by
  cases cc <;> rfl

theorem encode_rst (t : Fin 8) : encode (Form.rst t) = [3#2 ++ BitVec.ofNat 3 t.val ++ 7#3] := by
  fin_cases t <;> rfl

/-- Settles O3: the codes are the model's equations, and the bytes of each form are its `encode_` lemma. -/
theorem formEncodingFields : Obligations.FormEncodingFields := by
  unfold Obligations.FormEncodingFields
  refine ⟨⟨rfl, rfl⟩, ⟨fun _ => rfl, rfl⟩, rfl, rfl, rfl, rfl, rfl, encode_ld, rfl, encode_ldImm, ?incDec, encode_alu_op,
    encode_alu_imm, encode_ldDD, ?pairs, ?stack, ?conditional, encode_jrCc, encode_rst⟩
  case incDec => exact fun d => ⟨encode_inc d, encode_dec d⟩
  case pairs => exact fun r => ⟨encode_addHL r, encode_incDD r, encode_decDD r⟩
  case stack => exact fun p => ⟨encode_push p, encode_pop p⟩
  case conditional => exact fun cc nn => ⟨encode_jpCc cc nn, encode_callCc cc nn, encode_retCc cc⟩

/-! ## Decoding what was encoded -/

/-- The decoder reads a word back from its two bytes: an instruction that it decodes up to `wordOf (hiByte w) (loByte w)`
round-trips. -/
theorem decodeBytes_encode_word {i : Word → Instr} {rest : List Byte}
    (h : ∀ w, decodeBytes (encode (i w) ++ rest) = .ok (i (wordOf (hiByte w) (loByte w)), rest)) (w : Word) :
    decodeBytes (encode (i w) ++ rest) = .ok (i w, rest) := by
  rw [h, wordOf_hiByte_loByte]

/-- The decoder reads a displacement back from its byte: an instruction that it decodes up to `signedByte (dispByte e)`
round-trips, where the displacement is in range (R82). -/
theorem decodeBytes_encode_disp {i : Int → Instr} {rest : List Byte}
    (h : ∀ e, decodeBytes (encode (i e) ++ rest) = .ok (i (signedByte (dispByte e)), rest)) {e : Int}
    (he : dispInRange e = true) : decodeBytes (encode (i e) ++ rest) = .ok (i e, rest) := by
  have ⟨hlo, hhi⟩ : -128 ≤ e ∧ e ≤ 127 := by simpa [dispInRange] using he
  rw [h, signedByte_dispByte hlo hhi]

/-- Settles O1, form by form: an opcode byte alone is read back by evaluation, a word by `decodeBytes_encode_word`, a
displacement by `decodeBytes_encode_disp`. -/
theorem decodeOfEncode : Obligations.DecodeOfEncode := by
  unfold Obligations.DecodeOfEncode
  intro i rest hwf
  induction i using instr_by_forms with
  | ld dst src _ =>
    match dst, src with
    | .reg q, .reg r => cases q <;> cases r <;> rfl
    | .reg q, .mHL => cases q <;> rfl
    | .mHL, .reg r => cases r <;> rfl
    | .mHL, .mHL => rfl
  | ldImm o n | inc o | dec o =>
    match o with
    | .reg r => cases r <;> rfl
    | .mHL => rfl
  | alu op v =>
    match v with
    | .op (.reg r) => cases op <;> cases r <;> rfl
    | .op .mHL => cases op <;> rfl
    | .imm n => cases op <;> rfl
  | ldDD r nn => cases r <;> exact decodeBytes_encode_word (fun _ => rfl) nn
  | jpCc cc nn | callCc cc nn => cases cc <;> exact decodeBytes_encode_word (fun _ => rfl) nn
  | ldmnn_HL nn | ldHL_mnn nn | ldmnn_A nn | ldA_mnn nn | jp_nn nn | call_nn nn =>
    exact decodeBytes_encode_word (fun _ => rfl) nn
  | jrCc cc e => cases cc <;> exact decodeBytes_encode_disp (fun _ => rfl) hwf
  | djnz_e e | jr_e e => exact decodeBytes_encode_disp (fun _ => rfl) hwf
  | addHL r | incDD r | decDD r => cases r <;> rfl
  | push p | pop p => cases p <;> rfl
  | retCc cc => cases cc <;> rfl
  | rst k => fin_cases k <;> rfl
  | outmn_A n | inA_mn n => rfl
  | nop | ldmBC_A | rlca | exAF_AF | ldA_mBC | rrca | ldmDE_A | rla | ldA_mDE | rra | daa | cpl | scf | ccf | halt | ret
  | cbPrefix | exx | ddPrefix | exmSP_HL | jpHL | exDE_HL | edPrefix | di | ldSP_HL | ei | fdPrefix => rfl

/-! ## Encoding what was decoded -/

/-- The opcode byte whose fields are `x`, `y` and `z` (R81). -/
def opcodeOf (x : Fin 4) (y z : Fin 8) : Byte := BitVec.ofNat 8 (64 * x.val + 8 * y.val + z.val)

theorem opcodeOf_fields (op : Byte) : opcodeOf (fieldX op) (fieldY op) (fieldZ op) = op := by
  apply BitVec.eq_of_toNat_eq
  have := op.isLt
  simp only [opcodeOf, fieldX, fieldY, fieldZ, BitVec.toNat_ofNat]
  omega

/-- What `EncodeOfDecode` says of an instruction: it is well-formed and its bytes are a leading part of these three. -/
def EncodesLeading (op n hi : Byte) (i : Instr) : Prop :=
  i.WellFormed ∧ encode i = [op, n, hi].take (lengthOf op)

theorem dispInRange_signedByte (b : Byte) : dispInRange (signedByte b) = true := by
  have := signedByte_range b
  simpa [dispInRange] using this

/-- A relative jump with the displacement of its operand byte. -/
theorem encodesLeading_disp {i : Int → Instr} {op : Byte} (n hi : Byte) (hlen : lengthOf op = 2)
    (hwf : ∀ e, (i e).wf = dispInRange e) (henc : ∀ e, encode (i e) = [op, dispByte e]) :
    EncodesLeading op n hi (i (signedByte n)) := by
  refine ⟨(hwf _).trans (dispInRange_signedByte n), ?_⟩
  rw [henc, hlen, dispByte_signedByte]
  rfl

/-- An instruction with the word of its operand bytes. -/
theorem encodesLeading_word {i : Word → Instr} {op : Byte} (n hi : Byte) (hlen : lengthOf op = 3)
    (hwf : ∀ w, (i w).WellFormed) (henc : ∀ w, encode (i w) = [op, loByte w, hiByte w]) :
    EncodesLeading op n hi (i (wordOf hi n)) := by
  refine ⟨hwf _, ?_⟩
  rw [henc, hlen, loByte_wordOf, hiByte_wordOf]
  rfl

theorem encodesLeading_x0 (y z : Fin 8) (n hi : Byte) :
    EncodesLeading (opcodeOf 0 y z) n hi (decodeX0 y z n (wordOf hi n)) := by
  match z with
  | 0 =>
    match y with
    | 0 | 1 => exact ⟨rfl, rfl⟩
    | 2 | 3 | 4 | 5 | 6 | 7 => exact encodesLeading_disp n hi (by decide) (fun _ => rfl) (fun _ => rfl)
  | 1 =>
    match y with
    | 0 | 2 | 4 | 6 => exact encodesLeading_word n hi (by decide) (fun _ => rfl) (fun _ => rfl)
    | 1 | 3 | 5 | 7 => exact ⟨rfl, rfl⟩
  | 2 =>
    match y with
    | 0 | 1 | 2 | 3 => exact ⟨rfl, rfl⟩
    | 4 | 5 | 6 | 7 => exact encodesLeading_word n hi (by decide) (fun _ => rfl) (fun _ => rfl)
  | 3 | 4 | 5 | 6 | 7 => fin_cases y <;> exact ⟨rfl, rfl⟩

theorem encodesLeading_x1 (y z : Fin 8) (n hi : Byte) :
    EncodesLeading (opcodeOf 1 y z) n hi (Form.ld (Operand8.ofField y) (Operand8.ofField z)) := by
  fin_cases y <;> fin_cases z <;> exact ⟨rfl, rfl⟩

theorem encodesLeading_x2 (y z : Fin 8) (n hi : Byte) :
    EncodesLeading (opcodeOf 2 y z) n hi (Form.alu (AluOp.ofField y) (.op (Operand8.ofField z))) := by
  fin_cases y <;> fin_cases z <;> exact ⟨rfl, rfl⟩

theorem encodesLeading_x3 (y z : Fin 8) (n hi : Byte) :
    EncodesLeading (opcodeOf 3 y z) n hi (decodeX3 y z n (wordOf hi n)) := by
  match z with
  | 2 | 4 => fin_cases y <;> exact encodesLeading_word n hi (by decide) (fun _ => rfl) (fun _ => rfl)
  | 3 =>
    match y with
    | 0 => exact encodesLeading_word n hi (by decide) (fun _ => rfl) (fun _ => rfl)
    | 1 | 2 | 3 | 4 | 5 | 6 | 7 => exact ⟨rfl, rfl⟩
  | 5 =>
    match y with
    | 1 => exact encodesLeading_word n hi (by decide) (fun _ => rfl) (fun _ => rfl)
    | 0 | 2 | 3 | 4 | 5 | 6 | 7 => exact ⟨rfl, rfl⟩
  | 0 | 1 | 6 | 7 => fin_cases y <;> exact ⟨rfl, rfl⟩

/-- The decoder by quadrant, at the opcode byte composed of its fields (R84 to R87). -/
theorem encodesLeading_decode3 (op n hi : Byte) : EncodesLeading op n hi (decode3 op n hi) := by
  have hop := opcodeOf_fields op
  unfold decode3
  generalize fieldX op = x, fieldY op = y, fieldZ op = z at hop ⊢
  subst hop
  match x with
  | 0 => exact encodesLeading_x0 y z n hi
  | 1 => exact encodesLeading_x1 y z n hi
  | 2 => exact encodesLeading_x2 y z n hi
  | 3 => exact encodesLeading_x3 y z n hi

/-- Settles O2: every quadrant of the decoder, `encodesLeading_decode3`. -/
theorem encodeOfDecode : Obligations.EncodeOfDecode := by
  unfold Obligations.EncodeOfDecode
  exact encodesLeading_decode3

/-- Three bytes as a stream: the instruction `decode3` reads, and the bytes after it. From the two round trips. -/
theorem decodeBytes_three (op b1 b2 : Byte) :
    decodeBytes [op, b1, b2] = .ok (decode3 op b1 b2, [op, b1, b2].drop (lengthOf op)) := by
  obtain ⟨hwf, henc⟩ := encodeOfDecode op b1 b2
  have h := decodeOfEncode (decode3 op b1 b2) ([op, b1, b2].drop (lengthOf op)) hwf
  rwa [henc, List.take_append_drop] at h

/-- Settles O4: each word evaluates. -/
theorem writtenWordsDecode : Obligations.WrittenWordsDecode := by
  unfold Obligations.WrittenWordsDecode
  exact ⟨rfl, rfl, rfl, rfl, rfl, rfl, rfl, rfl, rfl, rfl, rfl, rfl⟩

end Sys2Proof.Machine

/-! The step (spec/40_dispatch.md R100): quiescent with a fault recorded, else the instruction at pc. -/
namespace Sys2Proof.Machine

theorem step_of_no_fault {s : State} (h : s.fault = none) : step s = exec s.fetch s := by
  unfold step
  rw [h]

theorem step_of_fault {s : State} (h : s.fault ≠ none) : step s = .next s := by
  obtain ⟨x, hx⟩ := Option.ne_none_iff_exists'.1 h
  unfold step
  rw [hx]

/-- Settles O5: the stream at pc decodes to the fetched instruction (`decodeBytes_three`). -/
theorem stepRunsDecodedInstruction : Obligations.StepRunsDecodedInstruction := by
  unfold Obligations.StepRunsDecodedInstruction
  intro s i rest hfault _ hdec
  rw [decodeBytes_three] at hdec
  obtain ⟨rfl, -⟩ := Prod.mk.inj (Except.ok.inj hdec)
  exact step_of_no_fault hfault

/-- A state that a step leaves as it is stays so for any number of steps. -/
theorem run_of_step_self {s : State} (h : step s = .next s) (k : Nat) : Sys2Proof.core.run k s = .next s := by
  induction k with
  | zero => rfl
  | succ k ih =>
    have hcore : Sys2Proof.core.step s = .next s := h
    simp only [Host.Core.run, hcore, ih]

/-- Settles O7: the step of a faulted core is the identity. -/
theorem faultedCoreQuiescent : Obligations.FaultedCoreQuiescent := by
  unfold Obligations.FaultedCoreQuiescent
  exact fun s h => run_of_step_self (step_of_fault h)

theorem exec_halt (s : State) : exec .halt s = .next s := rfl

/-- Settles O30: HALT's byte is a fixed word of the encoder, and its effect puts pc where it is. -/
theorem haltHoldsEverything : Obligations.HaltHoldsEverything := by
  unfold Obligations.HaltHoldsEverything
  exact ⟨rfl, exec_halt⟩

/-- Settles O8: the instruction at pc is HALT, whose effect is the identity. -/
theorem haltedCoreStays : Obligations.HaltedCoreStays := by
  unfold Obligations.HaltedCoreStays
  intro s ⟨hfault, hop⟩
  have hfetch : s.fetch = .halt := by
    unfold State.fetch
    rw [hop]
    rfl
  refine run_of_step_self ?_
  rw [step_of_no_fault hfault, hfetch, exec_halt]

end Sys2Proof.Machine

/-! Everything an instruction can do, said once (spec/40_dispatch.md R101). -/
namespace Sys2Proof.Machine

/-- The addition and subtraction families (R150, R175 to R178): the exact result wrapped into the operand, its flags. -/
def State.arithTo (s : State) (o : Operand8) (raw : Int) (sub : Bool) (len : Word) : State :=
  ((s.setX o (trunc8 raw)).arithFlags (trunc8 raw) raw sub).advance len

/-- The logical family (R150): the result into A, its flags. -/
def State.logicTo (s : State) (r8 : Byte) (len : Word) : State := ((s.set8 .a r8).logicFlags r8).advance len

/-- The states each instruction goes to, by form, in the model's own operations. What each of these does to a field of the
state is a simp lemma, so a claim about every instruction is a case split over this relation. -/
inductive Executes (s : State) : Instr → State → Prop
  | ld {dst src : Operand8} (h : ¬(dst = .mHL ∧ src = .mHL)) :
      Executes s (Form.ld dst src) ((s.setX dst (s.x src)).advance 1)
  | ldImm (o : Operand8) (n : Byte) : Executes s (Form.ldImm o n) ((s.setX o n).advance 2)
  | inc (o : Operand8) : Executes s (Form.inc o) (s.arithTo o ((s.x o).toNat + 1) false 1)
  | dec (o : Operand8) : Executes s (Form.dec o) (s.arithTo o ((s.x o).toNat - 1) true 1)
  | add (v : AluSrc) : Executes s (Form.alu .add v)
      (s.arithTo (.reg .a) (s.a.toNat + (s.aluOperand v).toNat) false (aluLength v))
  | adc (v : AluSrc) : Executes s (Form.alu .adc v)
      (s.arithTo (.reg .a) (s.a.toNat + (s.aluOperand v).toNat + bitNat (s.flag .c)) false (aluLength v))
  | sub (v : AluSrc) : Executes s (Form.alu .sub v)
      (s.arithTo (.reg .a) (s.a.toNat - (s.aluOperand v).toNat) true (aluLength v))
  | sbc (v : AluSrc) : Executes s (Form.alu .sbc v)
      (s.arithTo (.reg .a) (s.a.toNat - (s.aluOperand v).toNat - bitNat (s.flag .c)) true (aluLength v))
  | and (v : AluSrc) : Executes s (Form.alu .and v) (s.logicTo (s.a &&& s.aluOperand v) (aluLength v))
  | xor (v : AluSrc) : Executes s (Form.alu .xor v) (s.logicTo (s.a ^^^ s.aluOperand v) (aluLength v))
  | or (v : AluSrc) : Executes s (Form.alu .or v) (s.logicTo (s.a ||| s.aluOperand v) (aluLength v))
  | cp (v : AluSrc) : Executes s (Form.alu .cp v)
      ((s.arithFlags (trunc8 (s.a.toNat - (s.aluOperand v).toNat)) (s.a.toNat - (s.aluOperand v).toNat) true).advance
        (aluLength v))
  | ldDD (r : RegDD) (nn : Word) : Executes s (Form.ldDD r nn) ((s.setDD r nn).advance 3)
  | addHL (r : RegDD) : Executes s (Form.addHL r)
      (((s.set16 .hl (trunc16 (s.hl.toNat + (s.getDD r).toNat : Nat))).carryFlags
        (decide (s.hl.toNat + (s.getDD r).toNat > 0xFFFF))).advance 1)
  | incDD (r : RegDD) : Executes s (Form.incDD r) ((s.setDD r (s.getDD r + 1)).advance 1)
  | decDD (r : RegDD) : Executes s (Form.decDD r) ((s.setDD r (s.getDD r - 1)).advance 1)
  | push (p : RegQQ) : Executes s (Form.push p) ((s.push16 (s.get16 p)).advance 1)
  | pop (p : RegQQ) : Executes s (Form.pop p) ((s.pop16.2.set16 p s.pop16.1).advance 1)
  | jpCc (cc : Cond) (nn : Word) : Executes s (Form.jpCc cc nn) (s.jump (s.cond cc) nn 3)
  | jrCc (cc : CondJR) (e : Int) : Executes s (Form.jrCc cc e) (s.relativeJump (s.cond (condOfJR cc)) e 2)
  | callCc (cc : Cond) (nn : Word) : Executes s (Form.callCc cc nn) (s.call (s.cond cc) nn)
  | retCc (cc : Cond) : Executes s (Form.retCc cc) (s.ret (s.cond cc))
  | rst (k : Fin 8) : Executes s (Form.rst k) (s.restart (BitVec.ofNat 16 (k.val * 8)))
  | djnz_e (e : Int) : Executes s (.djnz_e e) ((s.set8 .b (s.b - 1)).relativeJump (decide (s.b - 1 ≠ 0)) e 2)
  | jr_e (e : Int) : Executes s (.jr_e e) (s.relativeJump true e 2)
  | ldmnn_HL (nn : Word) : Executes s (.ldmnn_HL nn) ((s.memWrite16 nn s.hl).advance 3)
  | ldHL_mnn (nn : Word) : Executes s (.ldHL_mnn nn) ((s.set16 .hl (s.memRead16 nn)).advance 3)
  | ldmnn_A (nn : Word) : Executes s (.ldmnn_A nn) ((s.memWrite nn s.a).advance 3)
  | ldA_mnn (nn : Word) : Executes s (.ldA_mnn nn) ((s.set8 .a (s.memRead nn)).advance 3)
  | jp_nn (nn : Word) : Executes s (.jp_nn nn) (s.jump true nn 3)
  | call_nn (nn : Word) : Executes s (.call_nn nn) (s.call true nn)
  | out {n : Byte} (h : n.toNat < 16) : Executes s (.outmn_A n)
      (({ s with ports := s.ports.set n.toNat s.a } : State).advance 2)
  | outFault {n : Byte} (h : 16 ≤ n.toNat) : Executes s (.outmn_A n) (s.raise (.portOutOfRange s.pc n))
  | inp {n : Byte} (h : n.toNat < 16) : Executes s (.inA_mn n) ((s.set8 .a s.ports[n.toNat]).advance 2)
  | inpFault {n : Byte} (h : 16 ≤ n.toNat) : Executes s (.inA_mn n) (s.raise (.portOutOfRange s.pc n))
  | nop : Executes s .nop (s.advance 1)
  | ldmBC_A : Executes s .ldmBC_A ((s.memWrite s.bc s.a).advance 1)
  | rlca : Executes s .rlca
      (((s.set8 .a ((s.a <<< 1) ||| bitByte (s.a.getLsbD 7))).carryFlags (s.a.getLsbD 7)).advance 1)
  | exAF_AF : Executes s .exAF_AF (s.raise (.unmodelledOpcode s.pc 0x08))
  | ldA_mBC : Executes s .ldA_mBC ((s.set8 .a (s.memRead s.bc)).advance 1)
  | rrca : Executes s .rrca
      (((s.set8 .a ((s.a >>> 1) ||| (bitByte (s.a.getLsbD 0) <<< 7))).carryFlags (s.a.getLsbD 0)).advance 1)
  | ldmDE_A : Executes s .ldmDE_A ((s.memWrite s.de s.a).advance 1)
  | rla : Executes s .rla (((s.set8 .a ((s.a <<< 1) ||| bitByte (s.flag .c))).carryFlags (s.a.getLsbD 7)).advance 1)
  | ldA_mDE : Executes s .ldA_mDE ((s.set8 .a (s.memRead s.de)).advance 1)
  | rra : Executes s .rra
      (((s.set8 .a ((s.a >>> 1) ||| (bitByte (s.flag .c) <<< 7))).carryFlags (s.a.getLsbD 0)).advance 1)
  | daa : Executes s .daa (s.raise (.unmodelledOpcode s.pc 0x27))
  | cpl : Executes s .cpl ((s.set8 .a (~~~s.a)).drawHN.advance 1)
  | scf : Executes s .scf ((s.carryFlags true).advance 1)
  | ccf : Executes s .ccf ((s.carryFlags (!s.flag .c)).advance 1)
  | halt : Executes s .halt s
  | ret : Executes s .ret (s.ret true)
  | cbPrefix : Executes s .cbPrefix (s.advance 1)
  | exx : Executes s .exx (s.raise (.unmodelledOpcode s.pc 0xD9))
  | ddPrefix : Executes s .ddPrefix (s.advance 1)
  | exmSP_HL : Executes s .exmSP_HL ((exchangeSP s).advance 1)
  | jpHL : Executes s .jpHL (s.goto s.hl)
  | exDE_HL : Executes s .exDE_HL (((s.set16 .de s.hl).set16 .hl s.de).advance 1)
  | edPrefix : Executes s .edPrefix (s.advance 1)
  | di : Executes s .di (s.advance 1)
  | ldSP_HL : Executes s .ldSP_HL ((s.setDD .sp s.hl).advance 1)
  | ei : Executes s .ei (s.advance 1)
  | fdPrefix : Executes s .fdPrefix (s.advance 1)

/-- The relation gives each instruction the meaning it has. -/
theorem Executes.exec_eq {s t : State} {i : Instr} (h : Executes s i t) : exec i s = .next t := by
  cases h with
  | ld h => exact exec_ld s h
  | ldImm o n => exact exec_ldImm s o n
  | inc o => exact exec_inc s o
  | dec o => exact exec_dec s o
  | ldDD r nn => exact exec_ldDD s r nn
  | addHL r => exact exec_addHL s r
  | incDD r => exact exec_incDD s r
  | decDD r => exact exec_decDD s r
  | push p => exact exec_push s p
  | pop p => exact exec_pop s p
  | jpCc cc nn => exact exec_jpCc s cc nn
  | jrCc cc e => exact exec_jrCc s cc e
  | callCc cc nn => exact exec_callCc s cc nn
  | retCc cc => exact exec_retCc s cc
  | rst k => exact exec_rst s k
  | add v => exact exec_alu s .add v
  | adc v => exact exec_alu s .adc v
  | sub v => exact exec_alu s .sub v
  | sbc v => exact exec_alu s .sbc v
  | and v => exact exec_alu s .and v
  | xor v => exact exec_alu s .xor v
  | or v => exact exec_alu s .or v
  | cp v => exact exec_alu s .cp v
  | out h => exact output_ok s h
  | outFault h => exact output_fault s h
  | inp h => exact input_ok s h
  | inpFault h => exact input_fault s h
  | _ => rfl

/-- Every instruction does something. -/
theorem exists_executes (i : Instr) (s : State) : ∃ t, Executes s i t := by
  induction i using instr_by_forms with
  | ld dst src h => exact ⟨_, .ld h⟩
  | ldImm o n => exact ⟨_, .ldImm o n⟩
  | inc o => exact ⟨_, .inc o⟩
  | dec o => exact ⟨_, .dec o⟩
  | ldDD r nn => exact ⟨_, .ldDD r nn⟩
  | addHL r => exact ⟨_, .addHL r⟩
  | incDD r => exact ⟨_, .incDD r⟩
  | decDD r => exact ⟨_, .decDD r⟩
  | push p => exact ⟨_, .push p⟩
  | pop p => exact ⟨_, .pop p⟩
  | jpCc cc nn => exact ⟨_, .jpCc cc nn⟩
  | jrCc cc e => exact ⟨_, .jrCc cc e⟩
  | callCc cc nn => exact ⟨_, .callCc cc nn⟩
  | retCc cc => exact ⟨_, .retCc cc⟩
  | rst k => exact ⟨_, .rst k⟩
  | alu op v =>
    cases op with
    | add => exact ⟨_, .add v⟩
    | adc => exact ⟨_, .adc v⟩
    | sub => exact ⟨_, .sub v⟩
    | sbc => exact ⟨_, .sbc v⟩
    | and => exact ⟨_, .and v⟩
    | xor => exact ⟨_, .xor v⟩
    | or => exact ⟨_, .or v⟩
    | cp => exact ⟨_, .cp v⟩
  | outmn_A n =>
    rcases Nat.lt_or_ge n.toNat 16 with h | h
    · exact ⟨_, .out h⟩
    · exact ⟨_, .outFault h⟩
  | inA_mn n =>
    rcases Nat.lt_or_ge n.toNat 16 with h | h
    · exact ⟨_, .inp h⟩
    · exact ⟨_, .inpFault h⟩
  | _ => exact ⟨_, by constructor⟩

/-- The inversion of `exec`. -/
theorem executes_of_exec {i : Instr} {s t : State} (h : exec i s = .next t) : Executes s i t := by
  obtain ⟨u, hex⟩ := exists_executes i s
  obtain rfl : u = t := Host.Outcome.next.inj (hex.exec_eq.symm.trans h)
  exact hex

/-- The inversion of `step`: it leaves a faulted core as it is, and runs the instruction at pc of any other. -/
theorem step_cases {s t : State} (h : step s = .next t) :
    s.fault ≠ none ∧ t = s ∨ s.fault = none ∧ Executes s s.fetch t := by
  by_cases hf : s.fault = none
  · exact .inr ⟨hf, executes_of_exec ((step_of_no_fault hf).symm.trans h)⟩
  · exact .inl ⟨hf, (Host.Outcome.next.inj ((step_of_fault hf).symm.trans h)).symm⟩

/-- Settles O6: every instruction does something, and a step is an `exec` or the identity. -/
theorem stepAlwaysAnswersNext : Obligations.StepAlwaysAnswersNext := by
  unfold Obligations.StepAlwaysAnswersNext
  have hexec : ∀ (i : Instr) (s : State), ∃ t, exec i s = .next t := fun i s =>
    (exists_executes i s).imp fun _ h => h.exec_eq
  refine ⟨hexec, fun s => ?_⟩
  by_cases hf : s.fault = none
  · exact step_of_no_fault hf ▸ hexec s.fetch s
  · exact ⟨s, step_of_fault hf⟩

end Sys2Proof.Machine

/-! The fields of the composed updates of `Executes`. -/
namespace Sys2Proof.Machine

section
variable (s : State) (o : Operand8) (raw : Int) (sub : Bool) (len : Word) (r8 : Byte)

@[simp] theorem State.arithTo_ix : (s.arithTo o raw sub len).ix = s.ix := by simp [State.arithTo]
@[simp] theorem State.arithTo_iy : (s.arithTo o raw sub len).iy = s.iy := by simp [State.arithTo]
@[simp] theorem State.arithTo_sp : (s.arithTo o raw sub len).sp = s.sp := by simp [State.arithTo]
@[simp] theorem State.arithTo_pc : (s.arithTo o raw sub len).pc = s.pc + len := by simp [State.arithTo]
@[simp] theorem State.arithTo_mem : (s.arithTo o raw sub len).mem = (s.setX o (trunc8 raw)).mem := by simp [State.arithTo]
@[simp] theorem State.arithTo_ports : (s.arithTo o raw sub len).ports = s.ports := by simp [State.arithTo]
@[simp] theorem State.arithTo_fault : (s.arithTo o raw sub len).fault = s.fault := by simp [State.arithTo]
@[simp] theorem State.get8_arithTo (q : Reg8) :
    (s.arithTo o raw sub len).get8 q = (s.setX o (trunc8 raw)).get8 q := by simp [State.arithTo]

@[simp] theorem State.logicTo_ix : (s.logicTo r8 len).ix = s.ix := rfl
@[simp] theorem State.logicTo_iy : (s.logicTo r8 len).iy = s.iy := rfl
@[simp] theorem State.logicTo_sp : (s.logicTo r8 len).sp = s.sp := rfl
@[simp] theorem State.logicTo_pc : (s.logicTo r8 len).pc = s.pc + len := rfl
@[simp] theorem State.logicTo_mem : (s.logicTo r8 len).mem = s.mem := rfl
@[simp] theorem State.logicTo_ports : (s.logicTo r8 len).ports = s.ports := rfl
@[simp] theorem State.logicTo_fault : (s.logicTo r8 len).fault = s.fault := rfl
@[simp] theorem State.get8_logicTo (q : Reg8) : (s.logicTo r8 len).get8 q = (s.set8 .a r8).get8 q := by
  simp [State.logicTo]

@[simp] theorem exchangeSP_ix : (exchangeSP s).ix = s.ix := rfl
@[simp] theorem exchangeSP_iy : (exchangeSP s).iy = s.iy := rfl
@[simp] theorem exchangeSP_sp : (exchangeSP s).sp = s.sp := rfl
@[simp] theorem exchangeSP_pc : (exchangeSP s).pc = s.pc := rfl
@[simp] theorem exchangeSP_ports : (exchangeSP s).ports = s.ports := rfl
@[simp] theorem exchangeSP_fault : (exchangeSP s).fault = s.fault := rfl

/-- A register operand's write keeps memory. -/
@[simp] theorem State.setX_reg (r : Reg8) (v : Byte) : s.setX (.reg r) v = s.set8 r v := rfl

end

/-! ## What an instruction stores -/

/-- Bytes stored at these addresses in this order, whatever the bytes are. -/
inductive Memory.Stores : List Word → Memory → Memory → Prop
  | nil (m : Memory) : Memory.Stores [] m m
  | cons {a : Word} {as : List Word} {m m' : Memory} (v : Byte) (h : Memory.Stores as (Memory.write m a.toNat v) m') :
      Memory.Stores (a :: as) m m'

theorem Memory.Stores.of_eq {m m' : Memory} (h : m' = m) : Memory.Stores [] m m' := h ▸ .nil m

theorem Memory.Stores.wf {as : List Word} {m m' : Memory} (h : Memory.Stores as m m') (hm : m.Wf) : m'.Wf := by
  induction h with
  | nil => exact hm
  | @cons a _ _ _ v _ ih => exact ih (Memory.wf_write hm (show a.toNat < 65536 from a.isLt) v)

theorem Memory.Stores.read_of_notMem {as : List Word} {m m' : Memory} (h : Memory.Stores as m m') {a : Word}
    (ha : a ∉ as) : Memory.read m' a.toNat = Memory.read m a.toNat := by
  induction h with
  | nil => rfl
  | @cons b _ _ _ v _ ih =>
    obtain ⟨hab, has⟩ : a ≠ b ∧ a ∉ _ := by simpa using ha
    rw [ih has, Memory.read_write, if_neg (fun hn => hab (BitVec.eq_of_toNat_eq hn))]

theorem Memory.Stores.eq_of_nil {m m' : Memory} (h : Memory.Stores [] m m') : m' = m := by cases h; rfl

theorem State.stores_memWrite (s : State) (a : Word) (v : Byte) : Memory.Stores [a] s.mem (s.memWrite a v).mem :=
  .cons v (.nil _)

theorem State.stores_memWrite16 (s : State) (a v : Word) :
    Memory.Stores [a, a + 1] s.mem (s.memWrite16 a v).mem := .cons _ (.cons _ (.nil _))

theorem State.stores_push16 (s : State) (v : Word) :
    Memory.Stores [s.sp - 1, s.sp - 2] s.mem (s.push16 v).mem := by
  rw [← Word.sub_one_sub_one]
  exact .cons _ (.cons _ (.nil _))

theorem State.stores_exchangeSP (s : State) : Memory.Stores [s.sp, s.sp + 1] s.mem (exchangeSP s).mem :=
  .cons _ (.cons _ (.nil _))

/-- The cell an operand is in. -/
def State.cells (s : State) : Operand8 → List Word
  | .reg _ => []
  | .mHL => [s.hl]

theorem State.stores_setX (s : State) (o : Operand8) (v : Byte) :
    Memory.Stores (s.cells o) s.mem (s.setX o v).mem := by
  cases o with
  | reg r => exact .of_eq (s.set8_mem r v)
  | mHL => exact s.stores_memWrite _ v

theorem State.stores_call (s : State) (c : Bool) (nn : Word) :
    Memory.Stores (if c then [s.sp - 1, s.sp - 2] else []) s.mem (s.call c nn).mem := by
  cases c with
  | false => exact .of_eq rfl
  | true => exact s.stores_push16 _

/-! The table `storeAddrs` by form. -/

section
variable (s : State)

theorem storeAddrs_ld {dst src : Operand8} (h : ¬(dst = .mHL ∧ src = .mHL)) :
    storeAddrs (Form.ld dst src) s = s.cells dst := by
  match dst, src, h with
  | .reg q, .reg r, _ => cases q <;> cases r <;> rfl
  | .reg q, .mHL, _ => cases q <;> rfl
  | .mHL, .reg r, _ => cases r <;> rfl
  | .mHL, .mHL, h => exact absurd ⟨rfl, rfl⟩ h

theorem storeAddrs_ldImm (o : Operand8) (n : Byte) : storeAddrs (Form.ldImm o n) s = s.cells o := by
  match o with
  | .reg r => cases r <;> rfl
  | .mHL => rfl

theorem storeAddrs_inc (o : Operand8) : storeAddrs (Form.inc o) s = s.cells o := by
  match o with
  | .reg r => cases r <;> rfl
  | .mHL => rfl

theorem storeAddrs_dec (o : Operand8) : storeAddrs (Form.dec o) s = s.cells o := by
  match o with
  | .reg r => cases r <;> rfl
  | .mHL => rfl

theorem storeAddrs_alu (op : AluOp) (v : AluSrc) : storeAddrs (Form.alu op v) s = [] := by
  match v with
  | .op (.reg r) => cases op <;> cases r <;> rfl
  | .op .mHL => cases op <;> rfl
  | .imm n => cases op <;> rfl

theorem storeAddrs_ldDD (r : RegDD) (nn : Word) : storeAddrs (Form.ldDD r nn) s = [] := by cases r <;> rfl
theorem storeAddrs_addHL (r : RegDD) : storeAddrs (Form.addHL r) s = [] := by cases r <;> rfl
theorem storeAddrs_incDD (r : RegDD) : storeAddrs (Form.incDD r) s = [] := by cases r <;> rfl
theorem storeAddrs_decDD (r : RegDD) : storeAddrs (Form.decDD r) s = [] := by cases r <;> rfl
theorem storeAddrs_push (p : RegQQ) : storeAddrs (Form.push p) s = [s.sp - 1, s.sp - 2] := by cases p <;> rfl
theorem storeAddrs_pop (p : RegQQ) : storeAddrs (Form.pop p) s = [] := by cases p <;> rfl
theorem storeAddrs_jpCc (cc : Cond) (nn : Word) : storeAddrs (Form.jpCc cc nn) s = [] := by cases cc <;> rfl
theorem storeAddrs_jrCc (cc : CondJR) (e : Int) : storeAddrs (Form.jrCc cc e) s = [] := by cases cc <;> rfl
theorem storeAddrs_callCc (cc : Cond) (nn : Word) :
    storeAddrs (Form.callCc cc nn) s = if s.cond cc then [s.sp - 1, s.sp - 2] else [] := by cases cc <;> rfl
theorem storeAddrs_retCc (cc : Cond) : storeAddrs (Form.retCc cc) s = [] := by cases cc <;> rfl
theorem storeAddrs_rst (k : Fin 8) : storeAddrs (Form.rst k) s = [s.sp - 1, s.sp - 2] := by fin_cases k <;> rfl

end

/-- What an instruction leaves of memory: bytes stored at the addresses of `storeAddrs`, and nothing else. -/
theorem Executes.stores {s t : State} {i : Instr} (h : Executes s i t) :
    Memory.Stores (storeAddrs i s) s.mem t.mem := by
  cases h with
  | ld h => exact storeAddrs_ld s h ▸ s.stores_setX _ _
  | ldImm o n => exact storeAddrs_ldImm s o n ▸ s.stores_setX o n
  | inc o => rw [storeAddrs_inc, State.arithTo_mem]; exact s.stores_setX o _
  | dec o => rw [storeAddrs_dec, State.arithTo_mem]; exact s.stores_setX o _
  | add v | adc v | sub v | sbc v | and v | xor v | or v | cp v => rw [storeAddrs_alu]; exact .of_eq (by simp)
  | ldDD r nn => exact storeAddrs_ldDD s r nn ▸ .of_eq (by simp)
  | addHL r => exact storeAddrs_addHL s r ▸ .of_eq (by simp)
  | incDD r => exact storeAddrs_incDD s r ▸ .of_eq (by simp)
  | decDD r => exact storeAddrs_decDD s r ▸ .of_eq (by simp)
  | push p => exact storeAddrs_push s p ▸ s.stores_push16 _
  | pop p => exact storeAddrs_pop s p ▸ .of_eq (by simp)
  | jpCc cc nn => exact storeAddrs_jpCc s cc nn ▸ .of_eq (by simp)
  | jrCc cc e => exact storeAddrs_jrCc s cc e ▸ .of_eq (by simp)
  | callCc cc nn => exact storeAddrs_callCc s cc nn ▸ s.stores_call _ nn
  | retCc cc => exact storeAddrs_retCc s cc ▸ .of_eq (by simp)
  | rst k => exact storeAddrs_rst s k ▸ s.stores_push16 _
  | call_nn nn => exact s.stores_call true nn
  | ldmnn_HL nn => exact s.stores_memWrite16 nn _
  | ldmnn_A | ldmBC_A | ldmDE_A => exact s.stores_memWrite _ _
  | exmSP_HL => exact s.stores_exchangeSP
  | djnz_e | jr_e | ldHL_mnn | ldA_mnn | jp_nn | out | outFault | inp | inpFault | nop | rlca | exAF_AF | ldA_mBC | rrca
  | rla | ldA_mDE | rra | daa | cpl | scf | ccf | halt | ret | cbPrefix | exx | ddPrefix | jpHL | exDE_HL | edPrefix | di
  | ldSP_HL | ei | fdPrefix => exact .of_eq (by simp)

/-- Settles O23: the two halves are what `Memory.Stores` leaves unchanged. -/
theorem memoryFrame : Obligations.MemoryFrame := by
  unfold Obligations.MemoryFrame
  intro i s t hexec
  have hst := (executes_of_exec hexec).stores
  exact ⟨fun a ha => hst.read_of_notMem ha, fun hnil => (hnil ▸ hst).eq_of_nil⟩

theorem wf_exec {i : Instr} {s t : State} (hs : s.mem.Wf) (h : exec i s = .next t) : t.mem.Wf :=
  (executes_of_exec h).stores.wf hs

theorem wf_step {s t : State} (hs : s.mem.Wf) (h : step s = .next t) : t.mem.Wf := by
  rcases step_cases h with ⟨-, rfl⟩ | ⟨-, hex⟩
  · exact hs
  · exact hex.stores.wf hs

theorem State.wf_loadRom {s : State} (h : s.mem.Wf) (image : List Byte) : (s.loadRom image).1.mem.Wf := by
  unfold State.loadRom
  split
  · exact State.wf_writeBytes h 0 image
  · exact h

theorem wf_hostAct {act : HostAction} {s t : State} (hs : s.mem.Wf) (h : hostAct act s = .next t) : t.mem.Wf := by
  cases act with
  | step => exact wf_step hs h
  | reset p => obtain rfl := Host.Outcome.next.inj h; exact Memory.wf_nil
  | load image => obtain rfl := Host.Outcome.next.inj h; exact State.wf_loadRom hs image
  | write8 r v => obtain rfl := Host.Outcome.next.inj h; exact (s.set8_mem r v).symm ▸ hs
  | write16 p v => obtain rfl := Host.Outcome.next.inj h; exact (s.set16_mem p v).symm ▸ hs
  | writeReg16 r v => obtain rfl := Host.Outcome.next.inj h; exact (s.setReg16_mem r v).symm ▸ hs
  | writeMem a v => obtain rfl := Host.Outcome.next.inj h; exact State.wf_memWrite hs a v
  | writeF v | writePort i v => obtain rfl := Host.Outcome.next.inj h; exact hs

/-- Settles O16: a store keeps the canonical form (`Memory.Stores.wf`), and so does every action of the host. -/
theorem memoryStaysCanonical : Obligations.MemoryStaysCanonical := by
  unfold Obligations.MemoryStaysCanonical
  exact ⟨fun _ _ _ => wf_exec, fun _ _ => wf_step, fun _ _ _ => wf_hostAct⟩

/-- Settles O17: reset leaves no entry. -/
theorem memoryCanonicalAtReset : Obligations.MemoryCanonicalAtReset := by
  unfold Obligations.MemoryCanonicalAtReset
  exact ⟨Memory.wf_nil, fun _ => Memory.wf_nil⟩

/-! ## Canonical memories as functions -/

theorem Memory.read_head (x : Host.Cell) (m : Memory) : Memory.read (x :: m) x.1 = x.2 := by
  rw [Memory.read_cons, if_pos rfl]

/-- Below its first entry a canonical memory reads as unlisted. -/
theorem Memory.read_cons_of_lt {x : Host.Cell} {m : Memory} (h : Memory.Wf (x :: m)) {k : Nat} (hk : k < x.1) :
    Memory.read (x :: m) k = Memory.unlisted := by
  rw [Memory.read_cons, if_neg (Nat.ne_of_gt hk), Memory.read_lt_head h (Nat.le_of_lt hk)]

/-- The first entry of a canonical memory is not below that of another that reads the same. -/
theorem Memory.head_le_of_read_eq {x y : Host.Cell} {m m' : Memory} (hm : Memory.Wf (x :: m))
    (hm' : Memory.Wf (y :: m')) (h : ∀ k < Config.memSize, Memory.read (x :: m) k = Memory.read (y :: m') k) :
    y.1 ≤ x.1 := by
  obtain ⟨hx, hne⟩ := hm.2 x List.mem_cons_self
  by_contra hlt
  have hread := h x.1 hx
  rw [Memory.read_head, Memory.read_cons_of_lt hm' (Nat.lt_of_not_le hlt)] at hread
  exact hne hread

/-- A canonical memory with an entry does not read as the empty one. -/
theorem Memory.read_cons_ne_nil {x : Host.Cell} {m : Memory} (hm : Memory.Wf (x :: m)) :
    ¬ ∀ k < Config.memSize, Memory.read (x :: m) k = Memory.unlisted := by
  obtain ⟨hx, hne⟩ := hm.2 x List.mem_cons_self
  exact fun h => hne (Memory.read_head x m ▸ h x.1 hx)

theorem Memory.eq_of_read_eq {m m' : Memory} (hm : m.Wf) (hm' : m'.Wf)
    (h : ∀ k < Config.memSize, Memory.read m k = Memory.read m' k) : m = m' := by
  induction m generalizing m' with
  | nil =>
    cases m' with
    | nil => rfl
    | cons y m' => exact absurd (fun k hk => (h k hk).symm) (Memory.read_cons_ne_nil hm')
  | cons x m ih =>
    cases m' with
    | nil => exact absurd h (Memory.read_cons_ne_nil hm)
    | cons y m' =>
      have haddr : x.1 = y.1 := Nat.le_antisymm
        (Memory.head_le_of_read_eq hm' hm fun k hk => (h k hk).symm) (Memory.head_le_of_read_eq hm hm' h)
      have hval : x.2 = y.2 := by
        have hread := h x.1 (hm.2 x List.mem_cons_self).1
        rwa [Memory.read_head, haddr, Memory.read_head] at hread
      have htail : m = m' := ih (Memory.wf_tail hm) (Memory.wf_tail hm') fun k hk => by
        by_cases hkx : x.1 = k
        · rw [Memory.read_lt_head hm (Nat.le_of_eq hkx.symm), Memory.read_lt_head hm' (haddr ▸ Nat.le_of_eq hkx.symm)]
        · simpa [Memory.read_cons, ← haddr, hkx] using h k hk
      rw [Prod.ext haddr hval, htail]

/-- Settles O18: the words are the addresses inside memory (`Memory.eq_of_read_eq`). -/
theorem canonicalMemoryDeterminedByReads : Obligations.CanonicalMemoryDeterminedByReads := by
  unfold Obligations.CanonicalMemoryDeterminedByReads
  intro s t hs ht h
  refine Memory.eq_of_read_eq hs ht fun k hk => ?_
  simpa [State.memRead, Nat.mod_eq_of_lt hk] using h (BitVec.ofNat 16 k)

end Sys2Proof.Machine

/-! What no instruction, and what few, can change: IX and IY, the ports, the fault (spec/10_state.md R26,
spec/47_io.md R303, spec/60_exceptions.md R400 to R403). -/
namespace Sys2Proof.Machine

/-- No operation of the model writes IX, and none writes IY (R26). -/
theorem Executes.ix {s t : State} {i : Instr} (h : Executes s i t) : t.ix = s.ix := by cases h <;> simp

theorem Executes.iy {s t : State} {i : Instr} (h : Executes s i t) : t.iy = s.iy := by cases h <;> simp

/-- Settles O19: a step is the identity or an instruction's effect. -/
theorem indexRegistersNeverChange : Obligations.IndexRegistersNeverChange := by
  unfold Obligations.IndexRegistersNeverChange
  intro s t h
  rcases step_cases h with ⟨-, rfl⟩ | ⟨-, hex⟩
  · exact ⟨rfl, rfl⟩
  · exact ⟨hex.ix, hex.iy⟩

/-- The one write of a port: A into the port OUT names. -/
theorem Executes.ports {s t : State} {i : Instr} (h : Executes s i t) :
    t.ports = s.ports ∨ ∃ n, ∃ hn : n.toNat < 16, i = .outmn_A n ∧ t.ports = s.ports.set n.toNat s.a := by
  cases h
  case out n hn => exact .inr ⟨n, hn, rfl, rfl⟩
  all_goals exact .inl (by simp)

/-- Settles O22, from `Executes.ports`. -/
theorem portsWrittenOnlyByOut : Obligations.PortsWrittenOnlyByOut := by
  unfold Obligations.PortsWrittenOnlyByOut
  intro i s t hexec
  rcases (executes_of_exec hexec).ports with hkept | ⟨n, hn, rfl, hset⟩
  · exact ⟨fun _ => hkept, fun _ _ _ _ _ => by rw [hkept]⟩
  · refine ⟨fun hne => absurd rfl (hne n), fun m k hk hm hkm => ?_⟩
    obtain rfl := Instr.outmn_A.inj hm
    simp only [hset]
    exact Vector.getElem_set_ne hn hk (Ne.symm hkm)

/-! ## Faults -/

/-- The fault each instruction raises, and when (R400, R402, R403). -/
inductive Raises (s : State) : Instr → Fault → Prop
  | exAF_AF : Raises s .exAF_AF (.unmodelledOpcode s.pc 0x08)
  | exx : Raises s .exx (.unmodelledOpcode s.pc 0xD9)
  | daa : Raises s .daa (.unmodelledOpcode s.pc 0x27)
  | inp {n : Byte} (h : 16 ≤ n.toNat) : Raises s (.inA_mn n) (.portOutOfRange s.pc n)
  | out {n : Byte} (h : 16 ≤ n.toNat) : Raises s (.outmn_A n) (.portOutOfRange s.pc n)

theorem exec_of_raises {s : State} {i : Instr} {x : Fault} (h : Raises s i x) : exec i s = .next (s.raise x) := by
  cases h with
  | exAF_AF | exx | daa => rfl
  | inp h => exact input_fault s h
  | out h => exact output_fault s h

/-- An instruction keeps the fault field, or raises its fault and does nothing else. -/
theorem Executes.fault_cases {s t : State} {i : Instr} (h : Executes s i t) :
    t.fault = s.fault ∨ ∃ x, Raises s i x ∧ t = s.raise x := by
  cases h
  case exAF_AF => exact .inr ⟨_, .exAF_AF, rfl⟩
  case exx => exact .inr ⟨_, .exx, rfl⟩
  case daa => exact .inr ⟨_, .daa, rfl⟩
  case inpFault hn => exact .inr ⟨_, .inp hn, rfl⟩
  case outFault hn => exact .inr ⟨_, .out hn, rfl⟩
  all_goals exact .inl (by simp)

/-- A step from an unfaulted state records a fault iff the instruction at pc raises it. -/
theorem step_fault_iff {s t : State} (hs : s.fault = none) (h : step s = .next t) (x : Fault) :
    t.fault = some x ↔ Raises s s.fetch x := by
  rw [step_of_no_fault hs] at h
  constructor
  · intro hx
    rcases (executes_of_exec h).fault_cases with hkept | ⟨y, hy, rfl⟩
    · simp [hkept, hs] at hx
    · obtain rfl : y = x := Option.some.inj hx
      exact hy
  · intro hx
    obtain rfl := Host.Outcome.next.inj ((exec_of_raises hx).symm.trans h)
    rfl

/-- Settles O20: the only instructions that change the fault field do nothing else (`Executes.fault_cases`). -/
theorem faultEntryIsPrecise : Obligations.FaultEntryIsPrecise := by
  unfold Obligations.FaultEntryIsPrecise
  intro s t h hne
  rcases step_cases h with ⟨-, rfl⟩ | ⟨-, hex⟩
  · exact absurd rfl hne
  · rcases hex.fault_cases with hkept | ⟨x, -, rfl⟩
    · exact absurd hkept hne
    · rfl

/-- The bytes at pc begin with the fetched instruction's encoding. -/
theorem encode_fetch_prefix (s : State) :
    encode s.fetch <+: [s.memRead s.pc, s.memRead (s.pc + 1), s.memRead (s.pc + 2)] := by
  rw [State.fetch, (encodeOfDecode _ _ _).2]
  exact List.take_prefix _ _

/-- The opcode byte of the fetched instruction is the byte at pc. -/
theorem memRead_pc_of_fetch {s : State} {op : Byte} {operands : List Byte} (h : encode s.fetch = op :: operands) :
    s.memRead s.pc = op := by
  have hpre := encode_fetch_prefix s
  rw [h] at hpre
  exact (List.cons_prefix_cons.1 hpre).1.symm

/-- The operand byte of the fetched instruction is the byte after it. -/
theorem memRead_pc_add_one_of_fetch {s : State} {op n : Byte} {operands : List Byte}
    (h : encode s.fetch = op :: n :: operands) : s.memRead (s.pc + 1) = n := by
  have hpre := encode_fetch_prefix s
  rw [h] at hpre
  exact (List.cons_prefix_cons.1 (List.cons_prefix_cons.1 hpre).2).1.symm

/-- PortOutOfRange is raised by the two bytes of IN or OUT and a port number. -/
theorem raises_portOutOfRange_iff (s : State) (pc : Word) (n : Byte) :
    Raises s s.fetch (.portOutOfRange pc n) ↔
      pc = s.pc ∧ n = s.memRead (s.pc + 1) ∧ 16 ≤ n.toNat ∧ (s.memRead s.pc = 0xDB ∨ s.memRead s.pc = 0xD3) := by
  constructor
  · intro h
    generalize hi : s.fetch = i at h
    cases h with
    | inp hn =>
      have henc : encode s.fetch = [0xDB, n] := hi ▸ rfl
      exact ⟨rfl, (memRead_pc_add_one_of_fetch henc).symm, hn, .inl (memRead_pc_of_fetch henc)⟩
    | out hn =>
      have henc : encode s.fetch = [0xD3, n] := hi ▸ rfl
      exact ⟨rfl, (memRead_pc_add_one_of_fetch henc).symm, hn, .inr (memRead_pc_of_fetch henc)⟩
  · rintro ⟨rfl, rfl, hn, hop | hop⟩
    · have hfetch : s.fetch = .inA_mn (s.memRead (s.pc + 1)) := by rw [State.fetch, hop]; rfl
      exact hfetch ▸ .inp hn
    · have hfetch : s.fetch = .outmn_A (s.memRead (s.pc + 1)) := by rw [State.fetch, hop]; rfl
      exact hfetch ▸ .out hn

/-- UnmodelledOpcode is raised by the three opcode bytes. -/
theorem raises_unmodelledOpcode_iff (s : State) (pc : Word) (op : Byte) :
    Raises s s.fetch (.unmodelledOpcode pc op) ↔
      pc = s.pc ∧ op = s.memRead s.pc ∧ (op = 0x08 ∨ op = 0xD9 ∨ op = 0x27) := by
  constructor
  · intro h
    generalize hi : s.fetch = i at h
    cases h with
    | exAF_AF => exact ⟨rfl, (memRead_pc_of_fetch (operands := []) (hi ▸ rfl)).symm, by decide⟩
    | exx => exact ⟨rfl, (memRead_pc_of_fetch (operands := []) (hi ▸ rfl)).symm, by decide⟩
    | daa => exact ⟨rfl, (memRead_pc_of_fetch (operands := []) (hi ▸ rfl)).symm, by decide⟩
  · rintro ⟨rfl, hread, rfl | rfl | rfl⟩
    · have hfetch : s.fetch = .exAF_AF := by rw [State.fetch, ← hread]; rfl
      exact hfetch ▸ .exAF_AF
    · have hfetch : s.fetch = .exx := by rw [State.fetch, ← hread]; rfl
      exact hfetch ▸ .exx
    · have hfetch : s.fetch = .daa := by rw [State.fetch, ← hread]; rfl
      exact hfetch ▸ .daa

/-- Settles O21: a step records what the instruction at pc raises (`step_fault_iff`), and which bytes raise each fault. -/
theorem faultRecordedExactlyWhen : Obligations.FaultRecordedExactlyWhen := by
  unfold Obligations.FaultRecordedExactlyWhen
  intro s t hs h
  exact ⟨fun pc n => (step_fault_iff hs h _).trans (raises_portOutOfRange_iff s pc n),
    fun pc op => (step_fault_iff hs h _).trans (raises_unmodelledOpcode_iff s pc op)⟩

end Sys2Proof.Machine

/-! The register frame (spec/10_state.md R27). -/
namespace Sys2Proof.Machine

/-- The registers an operand is in. -/
def operandRegs : Operand8 → List Reg8
  | .reg r => [r]
  | .mHL => []

/-- The registers of a `qq` pair (R25). F is no general register. -/
def pairRegs : RegQQ → List Reg8
  | .bc => [.b, .c]
  | .de => [.d, .e]
  | .hl => [.h, .l]
  | .af => [.a]

/-- The registers of a `dd` operand (R25). -/
def ddRegs : RegDD → List Reg8
  | .bc => [.b, .c]
  | .de => [.d, .e]
  | .hl => [.h, .l]
  | .sp => []

section
variable (s : State)

theorem State.get8_set8_of_ne {r q : Reg8} (h : q ≠ r) (v : Byte) : (s.set8 r v).get8 q = s.get8 q := by
  rw [State.get8_set8, if_neg h]

theorem State.get8_setX_of_notMem {o : Operand8} {q : Reg8} (h : q ∉ operandRegs o) (v : Byte) :
    (s.setX o v).get8 q = s.get8 q := by
  cases o with
  | reg r => exact s.get8_set8_of_ne (by simpa [operandRegs] using h) v
  | mHL => exact s.get8_memWrite _ v q

theorem State.get8_set16_of_notMem {p : RegQQ} {q : Reg8} (h : q ∉ pairRegs p) (v : Word) :
    (s.set16 p v).get8 q = s.get8 q := by
  cases p <;> cases q <;> simp [pairRegs] at h <;> rfl

theorem State.get8_setDD_of_notMem {r : RegDD} {q : Reg8} (h : q ∉ ddRegs r) (v : Word) :
    (s.setDD r v).get8 q = s.get8 q := by
  cases r with
  | bc => exact s.get8_set16_of_notMem (p := .bc) h v
  | de => exact s.get8_set16_of_notMem (p := .de) h v
  | hl => exact s.get8_set16_of_notMem (p := .hl) h v
  | sp => cases q <;> rfl

@[simp] theorem State.get8_memWrite16 (a v : Word) (q : Reg8) : (s.memWrite16 a v).get8 q = s.get8 q := by
  cases q <;> rfl

@[simp] theorem State.get8_raise (x : Fault) (q : Reg8) : (s.raise x).get8 q = s.get8 q := by cases q <;> rfl

end

/-! The table `destRegs` by form. -/

theorem destRegs_ld (dst src : Operand8) : destRegs (Form.ld dst src) = operandRegs dst := by
  match dst, src with
  | .reg q, .reg r => cases q <;> cases r <;> rfl
  | .reg q, .mHL => cases q <;> rfl
  | .mHL, .reg r => cases r <;> rfl
  | .mHL, .mHL => rfl

theorem destRegs_ldImm (o : Operand8) (n : Byte) : destRegs (Form.ldImm o n) = operandRegs o := by
  match o with
  | .reg r => cases r <;> rfl
  | .mHL => rfl

theorem destRegs_inc (o : Operand8) : destRegs (Form.inc o) = operandRegs o := by
  match o with
  | .reg r => cases r <;> rfl
  | .mHL => rfl

theorem destRegs_dec (o : Operand8) : destRegs (Form.dec o) = operandRegs o := by
  match o with
  | .reg r => cases r <;> rfl
  | .mHL => rfl

theorem destRegs_alu (op : AluOp) (v : AluSrc) :
    destRegs (Form.alu op v) = if op = .cp then [] else [.a] := by
  match v with
  | .op (.reg r) => cases op <;> cases r <;> rfl
  | .op .mHL => cases op <;> rfl
  | .imm n => cases op <;> rfl

theorem destRegs_ldDD (r : RegDD) (nn : Word) : destRegs (Form.ldDD r nn) = ddRegs r := by cases r <;> rfl
theorem destRegs_addHL (r : RegDD) : destRegs (Form.addHL r) = pairRegs .hl := by cases r <;> rfl
theorem destRegs_incDD (r : RegDD) : destRegs (Form.incDD r) = ddRegs r := by cases r <;> rfl
theorem destRegs_decDD (r : RegDD) : destRegs (Form.decDD r) = ddRegs r := by cases r <;> rfl
theorem destRegs_pop (p : RegQQ) : destRegs (Form.pop p) = pairRegs p := by cases p <;> rfl

theorem Executes.get8_of_notMem {s t : State} {i : Instr} {q : Reg8} (h : Executes s i t) (hq : q ∉ destRegs i) :
    t.get8 q = s.get8 q := by
  cases h with
  | @ld dst src h => exact s.get8_setX_of_notMem (destRegs_ld dst src ▸ hq) _
  | ldImm o n => exact s.get8_setX_of_notMem (destRegs_ldImm o n ▸ hq) _
  | inc o => exact (s.get8_arithTo ..).trans (s.get8_setX_of_notMem (destRegs_inc o ▸ hq) _)
  | dec o => exact (s.get8_arithTo ..).trans (s.get8_setX_of_notMem (destRegs_dec o ▸ hq) _)
  | add v | adc v | sub v | sbc v =>
    rw [destRegs_alu] at hq
    exact (s.get8_arithTo ..).trans (s.get8_set8_of_ne (by simpa using hq) _)
  | and v | xor v | or v =>
    rw [destRegs_alu] at hq
    exact (s.get8_logicTo ..).trans (s.get8_set8_of_ne (by simpa using hq) _)
  | ldDD r nn => exact s.get8_setDD_of_notMem (destRegs_ldDD r nn ▸ hq) _
  | incDD r => exact s.get8_setDD_of_notMem (destRegs_incDD r ▸ hq) _
  | decDD r => exact s.get8_setDD_of_notMem (destRegs_decDD r ▸ hq) _
  | addHL r =>
    rw [State.get8_advance, State.get8_carryFlags]
    exact s.get8_set16_of_notMem (destRegs_addHL r ▸ hq) _
  | pop p => exact s.pop16.2.get8_set16_of_notMem (destRegs_pop p ▸ hq) _
  | ldHL_mnn nn => exact s.get8_set16_of_notMem (p := .hl) hq _
  | exmSP_HL =>
    have hhl : q ∉ pairRegs .hl := hq
    rw [State.get8_advance, exchangeSP, State.get8_set16_of_notMem _ hhl, State.get8_memWrite, State.get8_memWrite]
  | exDE_HL =>
    have ⟨hde, hhl⟩ : q ∉ pairRegs .de ∧ q ∉ pairRegs .hl := by simpa [destRegs, pairRegs, and_assoc] using hq
    rw [State.get8_advance, State.get8_set16_of_notMem _ hhl, State.get8_set16_of_notMem _ hde]
  | djnz_e e =>
    rw [State.get8_relativeJump]
    exact s.get8_set8_of_ne (by simpa [destRegs] using hq) _
  | ldA_mnn | inp | ldA_mBC | ldA_mDE | rlca | rrca | rla | rra | cpl =>
    simp only [State.get8_advance, State.get8_carryFlags, State.get8_drawHN]
    exact s.get8_set8_of_ne (by simpa [destRegs] using hq) _
  | ldSP_HL => cases q <;> rfl
  | out => cases q <;> rfl
  | _ => simp

/-! The table `writesSP` by form. -/

theorem writesSP_push (p : RegQQ) : writesSP (Form.push p) = true := by cases p <;> rfl
theorem writesSP_pop (p : RegQQ) : writesSP (Form.pop p) = true := by cases p <;> rfl
theorem writesSP_callCc (cc : Cond) (nn : Word) : writesSP (Form.callCc cc nn) = true := by cases cc <;> rfl
theorem writesSP_retCc (cc : Cond) : writesSP (Form.retCc cc) = true := by cases cc <;> rfl
theorem writesSP_rst (k : Fin 8) : writesSP (Form.rst k) = true := by fin_cases k <;> rfl

/-- Writing a `dd` operand keeps SP, unless the operand is SP. -/
theorem State.setDD_sp_of_ne (s : State) {r : RegDD} (h : r ≠ .sp) (v : Word) : (s.setDD r v).sp = s.sp := by
  cases r with
  | sp => exact absurd rfl h
  | bc | de | hl => rfl

theorem ne_sp_of_writesSP_ldDD {r : RegDD} {nn : Word} (h : writesSP (Form.ldDD r nn) = false) : r ≠ .sp := by
  rintro rfl; cases h
theorem ne_sp_of_writesSP_incDD {r : RegDD} (h : writesSP (Form.incDD r) = false) : r ≠ .sp := by rintro rfl; cases h
theorem ne_sp_of_writesSP_decDD {r : RegDD} (h : writesSP (Form.decDD r) = false) : r ≠ .sp := by rintro rfl; cases h

theorem Executes.sp_of_not_writesSP {s t : State} {i : Instr} (h : Executes s i t) (hi : writesSP i = false) :
    t.sp = s.sp := by
  cases h with
  | ldDD r nn => exact s.setDD_sp_of_ne (ne_sp_of_writesSP_ldDD hi) _
  | incDD r => exact s.setDD_sp_of_ne (ne_sp_of_writesSP_incDD hi) _
  | decDD r => exact s.setDD_sp_of_ne (ne_sp_of_writesSP_decDD hi) _
  | push p => rw [writesSP_push] at hi; cases hi
  | pop p => rw [writesSP_pop] at hi; cases hi
  | callCc cc nn => rw [writesSP_callCc] at hi; cases hi
  | retCc cc => rw [writesSP_retCc] at hi; cases hi
  | rst k => rw [writesSP_rst] at hi; cases hi
  | call_nn | ret | ldSP_HL => cases hi
  | _ => simp

/-- Settles O24: `Executes.get8_of_notMem` for the registers, `Executes.sp_of_not_writesSP` for SP. -/
theorem registerFrame : Obligations.RegisterFrame := by
  unfold Obligations.RegisterFrame
  intro i s t hexec
  have hex := executes_of_exec hexec
  exact ⟨fun _ => hex.get8_of_notMem, hex.sp_of_not_writesSP⟩

end Sys2Proof.Machine

/-! The program counter (spec/40_dispatch.md R102). -/
namespace Sys2Proof.Machine

/-! The tables `isTransfer` and `Instr.length` by form. -/

theorem isTransfer_jpCc (cc : Cond) (nn : Word) : isTransfer (Form.jpCc cc nn) = true := by cases cc <;> rfl
theorem isTransfer_jrCc (cc : CondJR) (e : Int) : isTransfer (Form.jrCc cc e) = true := by cases cc <;> rfl
theorem isTransfer_callCc (cc : Cond) (nn : Word) : isTransfer (Form.callCc cc nn) = true := by cases cc <;> rfl
theorem isTransfer_retCc (cc : Cond) : isTransfer (Form.retCc cc) = true := by cases cc <;> rfl
theorem isTransfer_rst (k : Fin 8) : isTransfer (Form.rst k) = true := by fin_cases k <;> rfl

@[simp] theorem length_ld (d r : Operand8) : (Form.ld d r).length = 1 := by rw [Instr.length, encode_ld]; rfl
@[simp] theorem length_ldImm (d : Operand8) (n : Byte) : (Form.ldImm d n).length = 2 := by
  rw [Instr.length, encode_ldImm]; rfl
@[simp] theorem length_inc (d : Operand8) : (Form.inc d).length = 1 := by rw [Instr.length, encode_inc]; rfl
@[simp] theorem length_dec (d : Operand8) : (Form.dec d).length = 1 := by rw [Instr.length, encode_dec]; rfl
@[simp] theorem length_ldDD (r : RegDD) (nn : Word) : (Form.ldDD r nn).length = 3 := by
  rw [Instr.length, encode_ldDD]; rfl
@[simp] theorem length_addHL (r : RegDD) : (Form.addHL r).length = 1 := by rw [Instr.length, encode_addHL]; rfl
@[simp] theorem length_incDD (r : RegDD) : (Form.incDD r).length = 1 := by rw [Instr.length, encode_incDD]; rfl
@[simp] theorem length_decDD (r : RegDD) : (Form.decDD r).length = 1 := by rw [Instr.length, encode_decDD]; rfl
@[simp] theorem length_push (p : RegQQ) : (Form.push p).length = 1 := by rw [Instr.length, encode_push]; rfl
@[simp] theorem length_pop (p : RegQQ) : (Form.pop p).length = 1 := by rw [Instr.length, encode_pop]; rfl

/-- The length of an accumulator operation is the one its rule names (R150). -/
@[simp] theorem ofNat_length_alu (op : AluOp) (v : AluSrc) : BitVec.ofNat 16 (Form.alu op v).length = aluLength v := by
  cases v with
  | op o => rw [Instr.length, encode_alu_op]; rfl
  | imm n => rw [Instr.length, encode_alu_imm]; rfl

theorem Executes.pc {s t : State} {i : Instr} (h : Executes s i t) (htr : isTransfer i = false) (hhalt : i ≠ .halt)
    (hfault : t.fault = none) : t.pc = s.pc + BitVec.ofNat 16 i.length := by
  cases h with
  | jpCc cc nn => rw [isTransfer_jpCc] at htr; cases htr
  | jrCc cc e => rw [isTransfer_jrCc] at htr; cases htr
  | callCc cc nn => rw [isTransfer_callCc] at htr; cases htr
  | retCc cc => rw [isTransfer_retCc] at htr; cases htr
  | rst k => rw [isTransfer_rst] at htr; cases htr
  | djnz_e | jr_e | jp_nn | call_nn | ret | jpHL => cases htr
  | halt => exact absurd rfl hhalt
  | exAF_AF | exx | daa | inpFault | outFault => cases hfault
  | ld | ldImm | inc | dec | add | adc | sub | sbc | and | xor | or | cp | ldDD | addHL | incDD | decDD | push | pop =>
    simp
  | _ => rfl

/-- Settles O27: `Executes.pc`, for the fetched instruction. -/
theorem pcAdvancesByLength : Obligations.PcAdvancesByLength := by
  unfold Obligations.PcAdvancesByLength
  intro s t hs htr hhalt h hfault
  rw [step_of_no_fault hs] at h
  exact (executes_of_exec h).pc htr hhalt hfault

end Sys2Proof.Machine

/-! The flag table (spec/10_state.md R40). -/
namespace Sys2Proof.Machine

theorem State.arithTo_spec (s : State) (o : Operand8) (raw : Int) (sub : Bool) (len : Word) :
    ArithFlagsHold s (s.arithTo o raw sub len) (trunc8 raw) raw sub :=
  ((s.setX o (trunc8 raw)).arithFlags_spec (trunc8 raw) raw sub).congr (State.setX_f ..) rfl

theorem State.logicTo_spec (s : State) (r8 : Byte) (len : Word) : LogicFlagsHold s (s.logicTo r8 len) r8 :=
  (s.set8 .a r8).logicFlags_spec r8

/-! What each flag procedure leaves meets its rows. -/

section
variable {s t : State} {r8 : Byte} {raw : Int}

theorem ArithFlagsHold.addFamily (h : ArithFlagsHold s t r8 raw false) : FlagRowHolds .addFamily s t := by
  obtain ⟨⟨hs, -, hpv⟩, hc, hn, hunused⟩ := h
  exact ⟨hpv.trans hs.symm, by simpa using hn, fun hset => by simp [hc, hset], hunused⟩

/-- A subtraction's exact result is at most 255, so C is kept (D7). -/
theorem ArithFlagsHold.carry_kept {sub : Bool} (h : ArithFlagsHold s t r8 raw sub) (hraw : raw ≤ 255) :
    t.flag .c = s.flag .c := by
  obtain ⟨-, hc, -⟩ := h
  simpa [not_lt.2 hraw] using hc

theorem ArithFlagsHold.subFamily (h : ArithFlagsHold s t r8 raw true) (hraw : raw ≤ 255) :
    FlagRowHolds .subFamily s t := by
  have hkept := h.carry_kept hraw
  obtain ⟨⟨hs, -, hpv⟩, -, hn, hunused⟩ := h
  exact ⟨hpv.trans hs.symm, by simpa using hn, hkept, hunused⟩

theorem LogicFlagsHold.logic (h : LogicFlagsHold s t r8) : FlagRowHolds .logic s t := by
  obtain ⟨⟨hs, -, hpv⟩, hc, hunused⟩ := h
  exact ⟨hpv.trans hs.symm, hc, hunused⟩

end

theorem byte_toNat_le (v : Byte) : (v.toNat : Int) ≤ 255 := by
  have := v.isLt
  omega

theorem bitNat_nonneg (b : Bool) : (0 : Int) ≤ bitNat b := Int.natCast_nonneg _

/-! The table `flagRow` by form. -/

/-- The row of an accumulator operation. -/
def aluRow : AluOp → FlagRow
  | .add | .adc => .addFamily
  | .sub | .sbc | .cp => .subFamily
  | .and | .xor | .or => .logic

theorem flagRow_ld (dst src : Operand8) : flagRow (Form.ld dst src) = .unchanged := by
  match dst, src with
  | .reg q, .reg r => cases q <;> cases r <;> rfl
  | .reg q, .mHL => cases q <;> rfl
  | .mHL, .reg r => cases r <;> rfl
  | .mHL, .mHL => rfl

theorem flagRow_ldImm (o : Operand8) (n : Byte) : flagRow (Form.ldImm o n) = .unchanged := by
  match o with
  | .reg r => cases r <;> rfl
  | .mHL => rfl

theorem flagRow_inc (o : Operand8) : flagRow (Form.inc o) = .addFamily := by
  match o with
  | .reg r => cases r <;> rfl
  | .mHL => rfl

theorem flagRow_dec (o : Operand8) : flagRow (Form.dec o) = .subFamily := by
  match o with
  | .reg r => cases r <;> rfl
  | .mHL => rfl

theorem flagRow_alu (op : AluOp) (v : AluSrc) : flagRow (Form.alu op v) = aluRow op := by
  match v with
  | .op (.reg r) => cases op <;> cases r <;> rfl
  | .op .mHL => cases op <;> rfl
  | .imm n => cases op <;> rfl

theorem flagRow_ldDD (r : RegDD) (nn : Word) : flagRow (Form.ldDD r nn) = .unchanged := by cases r <;> rfl
theorem flagRow_addHL (r : RegDD) : flagRow (Form.addHL r) = .carryOnly := by cases r <;> rfl
theorem flagRow_incDD (r : RegDD) : flagRow (Form.incDD r) = .unchanged := by cases r <;> rfl
theorem flagRow_decDD (r : RegDD) : flagRow (Form.decDD r) = .unchanged := by cases r <;> rfl
theorem flagRow_push (p : RegQQ) : flagRow (Form.push p) = .unchanged := by cases p <;> rfl
theorem flagRow_jpCc (cc : Cond) (nn : Word) : flagRow (Form.jpCc cc nn) = .unchanged := by cases cc <;> rfl
theorem flagRow_jrCc (cc : CondJR) (e : Int) : flagRow (Form.jrCc cc e) = .unchanged := by cases cc <;> rfl
theorem flagRow_callCc (cc : Cond) (nn : Word) : flagRow (Form.callCc cc nn) = .unchanged := by cases cc <;> rfl
theorem flagRow_retCc (cc : Cond) : flagRow (Form.retCc cc) = .unchanged := by cases cc <;> rfl
theorem flagRow_rst (k : Fin 8) : flagRow (Form.rst k) = .unchanged := by fin_cases k <;> rfl

/-- F in the last row of the table. -/
theorem flagRowHolds_of_unchanged {row : FlagRow} {s t : State} (hrow : row = .unchanged) (h : t.f = s.f) :
    FlagRowHolds row s t := hrow ▸ h

theorem Executes.flagRowHolds {s t : State} {i : Instr} (h : Executes s i t) : FlagRowHolds (flagRow i) s t := by
  cases h with
  | inc o => exact flagRow_inc o ▸ (s.arithTo_spec ..).addFamily
  | dec o =>
    have hx := byte_toNat_le (s.x o)
    exact flagRow_dec o ▸ (s.arithTo_spec ..).subFamily (by omega)
  | add v => exact flagRow_alu .add v ▸ (s.arithTo_spec ..).addFamily
  | adc v => exact flagRow_alu .adc v ▸ (s.arithTo_spec ..).addFamily
  | sub v =>
    have ha := byte_toNat_le s.a
    exact flagRow_alu .sub v ▸ (s.arithTo_spec ..).subFamily (by omega)
  | sbc v =>
    have ha := byte_toNat_le s.a
    have hcarry := bitNat_nonneg (s.flag .c)
    exact flagRow_alu .sbc v ▸ (s.arithTo_spec ..).subFamily (by omega)
  | cp v =>
    have ha := byte_toNat_le s.a
    exact flagRow_alu .cp v ▸ ArithFlagsHold.subFamily (s.arithFlags_spec ..) (by omega)
  | and v => exact flagRow_alu .and v ▸ (s.logicTo_spec ..).logic
  | xor v => exact flagRow_alu .xor v ▸ (s.logicTo_spec ..).logic
  | or v => exact flagRow_alu .or v ▸ (s.logicTo_spec ..).logic
  | addHL r => exact flagRow_addHL r ▸ (State.carryFlags_spec (s.set16 .hl _) _).2
  | rlca | rrca | rla | rra => exact (State.carryFlags_spec (s.set8 .a _) _).2
  | cpl =>
    obtain ⟨hc, hkept, hunused⟩ := (s.set8 .a (~~~s.a)).drawHN_spec
    exact ⟨hkept, hc, hunused⟩
  | scf | ccf =>
    obtain ⟨hc, hkept, hunused⟩ := s.carryFlags_spec _
    exact ⟨hkept, hc, hunused⟩
  | pop p =>
    cases p with
    | af => exact loByte_wordOf (s.memRead (s.sp + 1)) (s.memRead s.sp)
    | bc | de | hl => rfl
  | ld => exact flagRowHolds_of_unchanged (flagRow_ld ..) (by simp)
  | ldImm => exact flagRowHolds_of_unchanged (flagRow_ldImm ..) (by simp)
  | ldDD => exact flagRowHolds_of_unchanged (flagRow_ldDD ..) (by simp)
  | incDD => exact flagRowHolds_of_unchanged (flagRow_incDD ..) (by simp)
  | decDD => exact flagRowHolds_of_unchanged (flagRow_decDD ..) (by simp)
  | push => exact flagRowHolds_of_unchanged (flagRow_push ..) (by simp)
  | jpCc => exact flagRowHolds_of_unchanged (flagRow_jpCc ..) (by simp)
  | jrCc => exact flagRowHolds_of_unchanged (flagRow_jrCc ..) (by simp)
  | callCc => exact flagRowHolds_of_unchanged (flagRow_callCc ..) (by simp)
  | retCc => exact flagRowHolds_of_unchanged (flagRow_retCc ..) (by simp)
  | rst => exact flagRowHolds_of_unchanged (flagRow_rst ..) (by simp)
  | _ => exact flagRowHolds_of_unchanged rfl (by simp [State.set16, exchangeSP])

/-- Settles O25: `Executes.flagRowHolds`, from what each flag procedure leaves. -/
theorem flagTable : Obligations.FlagTable := by
  unfold Obligations.FlagTable
  exact fun _ _ _ hexec => (executes_of_exec hexec).flagRowHolds

/-- Every row but POP AF's keeps bits 3 and 5 (R29). -/
theorem FlagRowHolds.unusedKept {row : FlagRow} {s t : State} (h : FlagRowHolds row s t) (hrow : row ≠ .popAF) :
    UnusedKept s t := by
  cases row with
  | popAF => exact absurd rfl hrow
  | addFamily => exact h.2.2.2
  | subFamily => exact h.2.2.2
  | logic => exact h.2.2
  | cpl => exact h.2.2
  | scf => exact h.2.2
  | ccf => exact h.2.2
  | carryOnly => exact h.2
  | unchanged =>
    have hf : t.f = s.f := h
    exact ⟨by rw [hf], by rw [hf]⟩

theorem eq_popAF_of_flagRow {i : Instr} (h : flagRow i = .popAF) : i = .popAF := by
  cases i with
  | popAF => rfl
  | _ => cases h

/-- Settles O26: by the flag table the step ran POP AF, whose opcode byte is 0xF1. -/
theorem unusedFlagBitsOnlyByPopAF : Obligations.UnusedFlagBitsOnlyByPopAF := by
  unfold Obligations.UnusedFlagBitsOnlyByPopAF
  intro s t h hchanged
  rcases step_cases h with ⟨-, rfl⟩ | ⟨-, hex⟩
  · exact absurd ⟨rfl, rfl⟩ hchanged
  · have hrow : flagRow s.fetch = .popAF := by
      by_contra hne
      exact hchanged (hex.flagRowHolds.unusedKept hne)
    exact memRead_pc_of_fetch (operands := []) (by rw [eq_popAF_of_flagRow hrow]; rfl)

end Sys2Proof.Machine

/-! H, N and the draws reach nothing but themselves (spec/10_state.md R40, spec/00_scope.md R12). -/
namespace Sys2Proof.Machine

/-- An update that neither reads nor writes F or the draws: it is the same whatever they are. -/
def FlagBlind (u : State → State) : Prop :=
  ∀ (s : State) (f : Byte) (k : Nat), u { s with f := f, draws := k } = { u s with f := f, draws := k }

theorem AgreeButHN.flagBlind {u : State → State} (hu : FlagBlind u) {s s' : State} (h : AgreeButHN s s') :
    AgreeButHN (u s) (u s') := by
  obtain ⟨hs', hbits⟩ := h
  have hself : u s = { u s with f := s.f, draws := s.draws } := hu s s.f s.draws
  have hf : (u s).f = s.f := by rw [hself]
  have hu' : u s' = { u s with f := s'.f, draws := s'.draws } := by
    rw [hs']
    exact hu s s'.f s'.draws
  rw [hu']
  exact ⟨rfl, fun j h4 h1 => (hbits j h4 h1).trans (by rw [hf])⟩

/-- A flag procedure writes F and the draws alone, and F's other bits from what the two states share. -/
theorem agreeButHN_of_flags {s s' t t' : State} (h : AgreeButHN s s') (ht : t = { s with f := t.f, draws := t.draws })
    (ht' : t' = { s' with f := t'.f, draws := t'.draws })
    (hbits : ∀ j, j ≠ 4 → j ≠ 1 → t'.f.getLsbD j = t.f.getLsbD j) : AgreeButHN t t' := by
  refine ⟨?_, hbits⟩
  rw [ht', h.1, ht]

section
variable {s s' : State} (h : AgreeButHN s s')
include h

theorem AgreeButHN.flag_eq {g : Flag} (hh : g ≠ .h) (hn : g ≠ .n) : s'.flag g = s.flag g :=
  h.2 g.bit (fun hg => hh (Flag.bit_inj.1 hg)) (fun hg => hn (Flag.bit_inj.1 hg))

theorem AgreeButHN.cond_eq (cc : Cond) : s'.cond cc = s.cond cc := by
  have hz := h.flag_eq (g := .z) (by decide) (by decide)
  have hc := h.flag_eq (g := .c) (by decide) (by decide)
  have hpv := h.flag_eq (g := .pv) (by decide) (by decide)
  have hs := h.flag_eq (g := .s) (by decide) (by decide)
  cases cc <;> simp [State.cond, hz, hc, hpv, hs]

theorem AgreeButHN.arithFlags (r8 : Byte) (raw : Int) (sub : Bool) :
    AgreeButHN (s.arithFlags r8 raw sub) (s'.arithFlags r8 raw sub) := by
  refine agreeButHN_of_flags h (s.arithFlags_eq ..) (s'.arithFlags_eq ..) fun j h4 h1 => ?_
  rw [State.getLsbD_arithFlags _ _ _ _ h4, State.getLsbD_arithFlags _ _ _ _ h4, h.2 j h4 h1,
    h.2 0 (by decide) (by decide), if_neg h1, if_neg h1]

theorem AgreeButHN.logicFlags (r8 : Byte) : AgreeButHN (s.logicFlags r8) (s'.logicFlags r8) := by
  refine agreeButHN_of_flags h (s.logicFlags_eq r8) (s'.logicFlags_eq r8) fun j h4 h1 => ?_
  rw [State.getLsbD_logicFlags _ _ h4 h1, State.getLsbD_logicFlags _ _ h4 h1, h.2 j h4 h1]

theorem AgreeButHN.carryFlags (c : Bool) : AgreeButHN (s.carryFlags c) (s'.carryFlags c) := by
  refine agreeButHN_of_flags h (s.carryFlags_eq c) (s'.carryFlags_eq c) fun j h4 h1 => ?_
  rw [State.getLsbD_carryFlags _ _ h4 h1, State.getLsbD_carryFlags _ _ h4 h1, h.2 j h4 h1]

theorem AgreeButHN.drawHN : AgreeButHN s.drawHN s'.drawHN := by
  refine agreeButHN_of_flags h s.drawHN_eq s'.drawHN_eq fun j h4 h1 => ?_
  rw [State.getLsbD_drawHN _ h4 h1, State.getLsbD_drawHN _ h4 h1, h.2 j h4 h1]

theorem AgreeButHN.advance (k : Word) : AgreeButHN (s.advance k) (s'.advance k) :=
  h.flagBlind (u := (·.advance k)) fun _ _ _ => rfl

theorem AgreeButHN.set8 (r : Reg8) (v : Byte) : AgreeButHN (s.set8 r v) (s'.set8 r v) :=
  h.flagBlind (u := (·.set8 r v)) fun _ _ _ => by cases r <;> rfl

theorem AgreeButHN.setX (o : Operand8) (v : Byte) : AgreeButHN (s.setX o v) (s'.setX o v) := by
  cases o with
  | reg r => exact h.set8 r v
  | mHL => exact h.flagBlind (u := (·.setX .mHL v)) fun _ _ _ => rfl

theorem AgreeButHN.set16HL (v : Word) : AgreeButHN (s.set16 .hl v) (s'.set16 .hl v) :=
  h.flagBlind (u := (·.set16 .hl v)) fun _ _ _ => rfl

theorem AgreeButHN.jump (c : Bool) (target len : Word) : AgreeButHN (s.jump c target len) (s'.jump c target len) :=
  h.flagBlind (u := (·.jump c target len)) fun _ _ _ => by cases c <;> rfl

theorem AgreeButHN.relativeJump (c : Bool) (e : Int) (len : Word) :
    AgreeButHN (s.relativeJump c e len) (s'.relativeJump c e len) :=
  h.flagBlind (u := (·.relativeJump c e len)) fun _ _ _ => by cases c <;> rfl

theorem AgreeButHN.call (c : Bool) (nn : Word) : AgreeButHN (s.call c nn) (s'.call c nn) :=
  h.flagBlind (u := (·.call c nn)) fun _ _ _ => by cases c <;> rfl

theorem AgreeButHN.ret (c : Bool) : AgreeButHN (s.ret c) (s'.ret c) :=
  h.flagBlind (u := (·.ret c)) fun _ _ _ => by cases c <;> rfl

theorem AgreeButHN.arithTo (o : Operand8) (raw : Int) (sub : Bool) (len : Word) :
    AgreeButHN (s.arithTo o raw sub len) (s'.arithTo o raw sub len) :=
  ((h.setX o _).arithFlags _ raw sub).advance len

theorem AgreeButHN.logicTo (r8 : Byte) (len : Word) : AgreeButHN (s.logicTo r8 len) (s'.logicTo r8 len) :=
  ((h.set8 .a r8).logicFlags r8).advance len

/-! What the two states share. -/

theorem AgreeButHN.x_eq (o : Operand8) : s'.x o = s.x o := by
  rw [h.1]
  cases o with
  | reg r => cases r <;> rfl
  | mHL => rfl

theorem AgreeButHN.a_eq : s'.a = s.a := h.x_eq (.reg .a)

theorem AgreeButHN.aluOperand_eq (v : AluSrc) : s'.aluOperand v = s.aluOperand v := by
  cases v with
  | op o => exact h.x_eq o
  | imm n => rfl

theorem AgreeButHN.hl_eq : s'.hl = s.hl := by rw [h.1]; rfl

theorem AgreeButHN.getDD_eq (r : RegDD) : s'.getDD r = s.getDD r := by
  rw [h.1]
  cases r <;> rfl

theorem AgreeButHN.carry_eq : s'.flag .c = s.flag .c := h.flag_eq (by decide) (by decide)

end

/-- The state an instruction goes to. -/
def nextOf (i : Instr) (s : State) : State :=
  match exec i s with
  | .next t => t
  | .fault _ => s
  | .refused _ => s

theorem nextOf_eq {s t : State} {i : Instr} (h : Executes s i t) : nextOf i s = t := by
  unfold nextOf
  rw [h.exec_eq]

theorem flagBlind_ldDD (r : RegDD) (nn : Word) : FlagBlind (nextOf (Form.ldDD r nn)) := fun _ _ _ => by cases r <;> rfl

theorem flagBlind_incDD (r : RegDD) : FlagBlind (nextOf (Form.incDD r)) := fun _ _ _ => by cases r <;> rfl

theorem flagBlind_decDD (r : RegDD) : FlagBlind (nextOf (Form.decDD r)) := fun _ _ _ => by cases r <;> rfl

theorem flagBlind_rst (k : Fin 8) : FlagBlind (nextOf (Form.rst k)) := fun _ _ _ => by fin_cases k <;> rfl

theorem flagBlind_out (n : Byte) : FlagBlind (nextOf (.outmn_A n)) := fun s f k => by
  rcases Nat.lt_or_ge n.toNat 16 with hn | hn
  · rw [nextOf_eq (.out hn), nextOf_eq (.out hn)]
    rfl
  · rw [nextOf_eq (.outFault hn), nextOf_eq (.outFault hn)]
    rfl

theorem flagBlind_inp (n : Byte) : FlagBlind (nextOf (.inA_mn n)) := fun s f k => by
  rcases Nat.lt_or_ge n.toNat 16 with hn | hn
  · rw [nextOf_eq (.inp hn), nextOf_eq (.inp hn)]
    rfl
  · rw [nextOf_eq (.inpFault hn), nextOf_eq (.inpFault hn)]
    rfl

/-- POP AF loads F, so the two states then agree on every bit of it. -/
theorem AgreeButHN.pop {s s' : State} (h : AgreeButHN s s') (p : RegQQ) :
    AgreeButHN (nextOf (Form.pop p) s) (nextOf (Form.pop p) s') := by
  cases p with
  | bc | de | hl => exact h.flagBlind fun _ _ _ => rfl
  | af =>
    rw [h.1]
    exact ⟨rfl, fun _ _ _ => rfl⟩

/-- From two states that agree but on H, N and the draws, every instruction but PUSH AF goes to two that do: most are
blind to F; the conditional ones read flags the two share; the others write flags from what the two share. -/
theorem agreeButHN_nextOf {i : Instr} (hi : i ≠ .pushAF) {s s' : State} (h : AgreeButHN s s') :
    AgreeButHN (nextOf i s) (nextOf i s') := by
  induction i using instr_by_forms with
  | ld dst src hne =>
    rw [nextOf_eq (.ld hne), nextOf_eq (.ld hne), h.x_eq]
    exact (h.setX ..).advance _
  | ldImm o n =>
    rw [nextOf_eq (.ldImm o n), nextOf_eq (.ldImm o n)]
    exact (h.setX ..).advance _
  | inc o =>
    rw [nextOf_eq (.inc o), nextOf_eq (.inc o), h.x_eq]
    exact h.arithTo ..
  | dec o =>
    rw [nextOf_eq (.dec o), nextOf_eq (.dec o), h.x_eq]
    exact h.arithTo ..
  | alu op v =>
    cases op with
    | add =>
      rw [nextOf_eq (.add v), nextOf_eq (.add v), h.a_eq, h.aluOperand_eq]
      exact h.arithTo ..
    | adc =>
      rw [nextOf_eq (.adc v), nextOf_eq (.adc v), h.a_eq, h.aluOperand_eq, h.carry_eq]
      exact h.arithTo ..
    | sub =>
      rw [nextOf_eq (.sub v), nextOf_eq (.sub v), h.a_eq, h.aluOperand_eq]
      exact h.arithTo ..
    | sbc =>
      rw [nextOf_eq (.sbc v), nextOf_eq (.sbc v), h.a_eq, h.aluOperand_eq, h.carry_eq]
      exact h.arithTo ..
    | and =>
      rw [nextOf_eq (.and v), nextOf_eq (.and v), h.a_eq, h.aluOperand_eq]
      exact h.logicTo ..
    | xor =>
      rw [nextOf_eq (.xor v), nextOf_eq (.xor v), h.a_eq, h.aluOperand_eq]
      exact h.logicTo ..
    | or =>
      rw [nextOf_eq (.or v), nextOf_eq (.or v), h.a_eq, h.aluOperand_eq]
      exact h.logicTo ..
    | cp =>
      rw [nextOf_eq (.cp v), nextOf_eq (.cp v), h.a_eq, h.aluOperand_eq]
      exact (h.arithFlags ..).advance _
  | addHL r =>
    rw [nextOf_eq (.addHL r), nextOf_eq (.addHL r), h.hl_eq, h.getDD_eq]
    exact ((h.set16HL _).carryFlags _).advance _
  | rlca =>
    rw [nextOf_eq .rlca, nextOf_eq .rlca, h.a_eq]
    exact ((h.set8 ..).carryFlags _).advance _
  | rrca =>
    rw [nextOf_eq .rrca, nextOf_eq .rrca, h.a_eq]
    exact ((h.set8 ..).carryFlags _).advance _
  | rla =>
    rw [nextOf_eq .rla, nextOf_eq .rla, h.a_eq, h.carry_eq]
    exact ((h.set8 ..).carryFlags _).advance _
  | rra =>
    rw [nextOf_eq .rra, nextOf_eq .rra, h.a_eq, h.carry_eq]
    exact ((h.set8 ..).carryFlags _).advance _
  | cpl =>
    rw [nextOf_eq .cpl, nextOf_eq .cpl, h.a_eq]
    exact (h.set8 ..).drawHN.advance _
  | scf => exact (h.carryFlags true).advance 1
  | ccf =>
    rw [nextOf_eq .ccf, nextOf_eq .ccf, h.carry_eq]
    exact (h.carryFlags _).advance _
  | jpCc cc nn =>
    rw [nextOf_eq (.jpCc cc nn), nextOf_eq (.jpCc cc nn), h.cond_eq]
    exact h.jump ..
  | jrCc cc e =>
    rw [nextOf_eq (.jrCc cc e), nextOf_eq (.jrCc cc e), h.cond_eq]
    exact h.relativeJump ..
  | callCc cc nn =>
    rw [nextOf_eq (.callCc cc nn), nextOf_eq (.callCc cc nn), h.cond_eq]
    exact h.call ..
  | retCc cc =>
    rw [nextOf_eq (.retCc cc), nextOf_eq (.retCc cc), h.cond_eq]
    exact h.ret _
  | djnz_e e =>
    have hb : s'.b = s.b := h.x_eq (.reg .b)
    rw [nextOf_eq (.djnz_e e), nextOf_eq (.djnz_e e), hb]
    exact (h.set8 ..).relativeJump ..
  | push p =>
    cases p with
    | af => exact absurd rfl hi
    | bc | de | hl => exact h.flagBlind fun _ _ _ => rfl
  | pop p => exact h.pop p
  | ldDD r nn => exact h.flagBlind (flagBlind_ldDD r nn)
  | incDD r => exact h.flagBlind (flagBlind_incDD r)
  | decDD r => exact h.flagBlind (flagBlind_decDD r)
  | rst k => exact h.flagBlind (flagBlind_rst k)
  | outmn_A n => exact h.flagBlind (flagBlind_out n)
  | inA_mn n => exact h.flagBlind (flagBlind_inp n)
  | _ => exact h.flagBlind fun _ _ _ => rfl

/-- Settles O28: `agreeButHN_nextOf`, for the two states the instruction goes to. -/
theorem drawnFlagsDoNotLeak : Obligations.DrawnFlagsDoNotLeak := by
  unfold Obligations.DrawnFlagsDoNotLeak
  intro i s s' t t' hi hagree h h'
  rw [← nextOf_eq (executes_of_exec h), ← nextOf_eq (executes_of_exec h')]
  exact agreeButHN_nextOf hi hagree

end Sys2Proof.Machine

/-! Memory, the stack, F, reset and the loader as storage (spec/20_memory.md, spec/10_state.md sections 2 and 3,
spec/70_reset_and_hazards.md). -/
namespace Sys2Proof.Machine

theorem State.memRead16_memWrite16 (s : State) (a v : Word) : (s.memWrite16 a v).memRead16 a = v := by
  unfold State.memRead16
  rw [State.memRead_memWrite16, State.memRead_memWrite16, if_pos rfl, if_neg (Word.add_one_ne a).symm, if_pos rfl,
    wordOf_hiByte_loByte]

/-- Settles O12: what memory reads as after a 16-bit write is `State.memRead_memWrite16`. -/
theorem wordAccessLittleEndian : Obligations.WordAccessLittleEndian := by
  unfold Obligations.WordAccessLittleEndian
  intro s a v
  refine ⟨rfl, rfl, s.memRead16_memWrite16 a v, ?low, ?high, ?others, toNat_wordOf _ _⟩
  case low => rw [State.memRead_memWrite16, if_neg (Word.add_one_ne a).symm, if_pos rfl]
  case high => rw [State.memRead_memWrite16, if_pos rfl]
  case others =>
    intro b hb hb'
    rw [State.memRead_memWrite16, if_neg hb', if_neg hb]

/-- The word a push stored is the word at the new SP. -/
theorem State.memRead16_push16 (s : State) (v : Word) : (s.push16 v).memRead16 (s.sp - 2) = v := by
  unfold State.memRead16
  rw [Word.sub_two_add_one, State.memRead_push16_hi, State.memRead_push16_lo, wordOf_hiByte_loByte]

/-- Settles O13: the popped word is `State.memRead16_push16`, the frame `State.push16_eq`. -/
theorem pushPopRoundTrip : Obligations.PushPopRoundTrip := by
  unfold Obligations.PushPopRoundTrip
  intro s v
  refine ⟨?roundTrip, s.push16_sp v, fun a h1 h2 => s.memRead_push16_of_ne v h1 h2⟩
  case roundTrip =>
    rw [State.pop16, State.push16_sp, State.memRead16_push16, Word.sub_two_add_two]
    exact congrArg (Prod.mk v) (congrArg (fun t : State => { t with sp := s.sp }) (s.push16_eq v))

/-- Settles O15: a flag write is `State.getLsbD_putFlag`, and the byte PUSH AF leaves at SP-2 is the low byte of AF. -/
theorem flagBitLayout : Obligations.FlagBitLayout := by
  unfold Obligations.FlagBitLayout
  refine ⟨fun s => ⟨rfl, rfl, rfl, rfl, rfl, rfl⟩, fun s g b j => ⟨s.getLsbD_putFlag g b j, rfl⟩,
    fun s => ⟨_, rfl, ?pushAF⟩⟩
  case pushAF =>
    rw [State.memRead_advance, State.memRead_push16_lo]
    exact loByte_wordOf s.a s.f

/-- Settles O9: reset writes each field once, and memory without entries reads as 0x00 everywhere. -/
theorem resetValues : Obligations.ResetValues := by
  unfold Obligations.ResetValues
  refine ⟨fun p => ⟨?registers, rfl, rfl, rfl, rfl, rfl, fun a => rfl, rfl, rfl⟩, ResetParams.default, rfl, rfl⟩
  case registers => intro r; cases r <;> rfl

theorem State.loadRom_of_le {s : State} {image : List Byte} (h : image.length ≤ 32767) :
    s.loadRom image = (s.writeBytes 0 image, true) := if_pos h

theorem State.loadRom_of_lt {s : State} {image : List Byte} (h : 32767 < image.length) :
    s.loadRom image = (s, false) := if_neg (Nat.not_le.2 h)

/-- An image from address 0 on: its bytes, and beyond its length what was there. -/
theorem State.memRead_writeBytes_zero (s : State) {image : List Byte} (h : image.length ≤ 32767) (a : Word) :
    (s.writeBytes 0 image).memRead a = if ha : a.toNat < image.length then image[a.toNat] else s.memRead a := by
  rw [State.memRead_writeBytes _ _ _ (by simp; omega)]
  simp

/-- Settles O10: the loader's bytes are `State.memRead_writeBytes_zero`, its frame `State.writeBytes_eq`. -/
theorem romLoadContract : Obligations.RomLoadContract := by
  unfold Obligations.RomLoadContract
  intro s image
  refine ⟨fun h => ?accepted, State.loadRom_of_lt⟩
  case accepted =>
    rw [State.loadRom_of_le h]
    refine ⟨rfl, fun i hi => ?image, fun a ha => ?beyond, s.writeBytes_eq 0 image⟩
    case image =>
      have hlt : (BitVec.ofNat 16 i).toNat = i := Nat.mod_eq_of_lt (by omega)
      rw [State.memRead_writeBytes_zero s h]
      simp [hlt, hi]
    case beyond => rw [State.memRead_writeBytes_zero s h, dif_neg (Nat.not_lt.2 ha)]

end Sys2Proof.Machine

/-! What each interaction of the host does (spec/70_reset_and_hazards.md R457, R460). -/
namespace Sys2Proof.Machine

/-- A register write changes the general registers alone. -/
theorem State.set8_eq (s : State) (r : Reg8) (v : Byte) : s.set8 r v =
    { s with a := (s.set8 r v).a, b := (s.set8 r v).b, c := (s.set8 r v).c, d := (s.set8 r v).d, e := (s.set8 r v).e,
             h := (s.set8 r v).h, l := (s.set8 r v).l } := by cases r <;> rfl

theorem Ports.getElem_set (ports : Vector Byte 16) {n k : Nat} (hn : n < 16) (hk : k < 16) (v : Byte) :
    (ports.set n v)[k] = if k = n then v else ports[k] := by
  rw [Vector.getElem_set]
  simp only [eq_comm]

/-- Nothing but a reset clears a recorded fault (R404). -/
theorem hostAct_fault {act : HostAction} {s t : State} (hact : ∀ p, act ≠ .reset p) (hs : s.fault ≠ none)
    (h : hostAct act s = .next t) : t.fault = s.fault := by
  cases act with
  | reset p => exact absurd rfl (hact p)
  | step => rw [Host.Outcome.next.inj ((step_of_fault hs).symm.trans h)]
  | load image => rw [← Host.Outcome.next.inj h, State.loadRom_fault]
  | write8 r v => rw [← Host.Outcome.next.inj h, State.set8_fault]
  | write16 p v => rw [← Host.Outcome.next.inj h, State.set16_fault]
  | writeReg16 r v => rw [← Host.Outcome.next.inj h, State.setReg16_fault]
  | writeF v | writeMem a v | writePort i v => obtain rfl := Host.Outcome.next.inj h; rfl

/-- Settles O60: register, memory and port writes by their read-after-write lemmas; the fault by `hostAct_fault`. -/
theorem hostInteractions : Obligations.HostInteractions := by
  unfold Obligations.HostInteractions
  intro s
  refine ⟨⟨fun _ => rfl, fun _ => rfl, rfl⟩, ?register, fun _ _ => rfl, fun _ => rfl, fun _ => ⟨rfl, rfl, rfl, rfl⟩,
    ?memory, ?port, fun _ _ => hostAct_fault⟩
  case register =>
    exact fun r v => ⟨_, rfl, by rw [State.get8_set8, if_pos rfl], fun q hq => s.get8_set8_of_ne hq v, s.set8_eq r v⟩
  case memory => exact fun a v => ⟨_, rfl, fun b => s.memRead_memWrite a b v, s.memWrite_frame a v⟩
  case port => exact fun i v => ⟨_, rfl, fun k hk => Ports.getElem_set s.ports i.isLt hk v, rfl⟩

end Sys2Proof.Machine

/-! Control flow (spec/41_control_flow.md R120 to R135), DI, EI and the prefixes. -/
namespace Sys2Proof.Machine

/-- Settles O31: the hooks are the default that does nothing. -/
theorem oneByteNoOps : Obligations.OneByteNoOps := by
  unfold Obligations.OneByteNoOps
  refine ⟨rfl, rfl, rfl, rfl, rfl, rfl, fun s i hi => ?_⟩
  simp only [List.mem_cons, List.not_mem_nil, or_false] at hi
  rcases hi with rfl | rfl | rfl | rfl | rfl | rfl <;> rfl

/-- Settles O32: the conditions are the model's equations, the primitive is `State.jump_eq`. -/
theorem jumpAbsolute : Obligations.JumpAbsolute := by
  unfold Obligations.JumpAbsolute
  refine ⟨?conditions, ⟨rfl, rfl, rfl, rfl⟩, State.jump_eq, fun _ _ => rfl, fun cc nn s => ?conditional⟩
  case conditions => intro s; simp [State.cond]
  case conditional => rw [exec_jpCc, State.jump_eq]

theorem State.toNat_relativeJump_pc (s : State) (c : Bool) (e : Int) (len : Word) :
    ((s.relativeJump c e len).pc.toNat : Int)
      = (if c = true then (s.pc.toNat : Int) + 2 + e else (s.pc.toNat : Int) + len.toNat) % 65536 := by
  cases c with
  | true => exact toNat_trunc16 _
  | false =>
    show ((s.pc + len).toNat : Int) = _
    rw [BitVec.toNat_add]
    rfl

/-- `relativeJump` writes the program counter alone. -/
theorem State.relativeJump_frame (s : State) (c : Bool) (e : Int) (len : Word) :
    s.relativeJump c e len = { s with pc := (s.relativeJump c e len).pc } := by cases c <;> rfl

/-- Settles O33: all three are `State.toNat_relativeJump_pc` and `State.relativeJump_frame`. -/
theorem jumpRelative : Obligations.JumpRelative := by
  unfold Obligations.JumpRelative
  refine ⟨?primitive, ?always, ?conditional⟩
  case primitive => exact fun s c e len => ⟨s.toNat_relativeJump_pc c e len, s.relativeJump_frame c e len⟩
  case always => exact fun e s => ⟨_, rfl, s.toNat_relativeJump_pc true e 2, s.relativeJump_frame true e 2⟩
  case conditional =>
    exact fun cc e s => ⟨_, exec_jrCc s cc e, s.toNat_relativeJump_pc _ e 2, s.relativeJump_frame _ e 2⟩

/-- Settles O34: DJNZ is `relativeJump` from the state with B decremented, on that B. -/
theorem djnzAndJumpHL : Obligations.DjnzAndJumpHL := by
  unfold Obligations.DjnzAndJumpHL
  refine ⟨fun e s => ⟨_, rfl, ?counter, ?target, ?frame⟩, fun _ => rfl⟩
  case counter => exact s.decB.relativeJump_b _ e 2
  case target =>
    rw [State.toNat_relativeJump_pc, State.relativeJump_b]
    simp only [decide_eq_true_eq]
    rfl
  case frame =>
    rw [State.relativeJump_b]
    exact s.decB.relativeJump_frame _ e 2

/-- Settles O35: a taken call is `State.call_true`, one not taken `State.call_false`. -/
theorem callPushesReturnAddress : Obligations.CallPushesReturnAddress := by
  unfold Obligations.CallPushesReturnAddress
  refine ⟨?taken, ?notTaken⟩
  case taken =>
    intro i nn s h
    have hexec : exec i s = .next (s.call true nn) := by
      rcases h with rfl | ⟨cc, rfl, hcc⟩
      · rfl
      · rw [exec_callCc, hcc]
    exact ⟨_, hexec, s.memRead_push16_hi _, s.memRead_push16_lo _, fun a h1 h2 => s.memRead_push16_of_ne _ h1 h2,
      s.call_true nn⟩
  case notTaken =>
    intro cc nn s hcc
    rw [exec_callCc, hcc, State.call_false]

/-- Settles O36: a taken return is `State.ret_true`, one not taken `State.ret_false`. -/
theorem returnPopsOrSkips : Obligations.ReturnPopsOrSkips := by
  unfold Obligations.ReturnPopsOrSkips
  refine ⟨fun _ => rfl, fun cc s => ?_⟩
  rw [exec_retCc]
  cases s.cond cc with
  | true => exact congrArg _ s.ret_true
  | false => exact congrArg _ s.ret_false

/-- A return at a state whose stack top is as a push left it gives the pushed word and SP before the push. -/
theorem exec_ret_after_push {s u : State} {v : Word} (hsp : u.sp = s.sp - 2)
    (hlo : u.memRead u.sp = loByte v) (hhi : u.memRead (u.sp + 1) = hiByte v) :
    exec .ret u = .next { u with pc := v, sp := s.sp } := by
  have hret : exec .ret u = .next (u.ret true) := rfl
  rw [hret, State.ret_true, State.memRead16, hlo, hhi, wordOf_hiByte_loByte, hsp, Word.sub_two_add_two]

/-- The two cells at the SP a push leaves hold its word. -/
theorem State.memRead_push16_top (s : State) (v : Word) :
    (s.push16 v).memRead (s.sp - 2) = loByte v ∧ (s.push16 v).memRead (s.sp - 2 + 1) = hiByte v := by
  rw [Word.sub_two_add_one]
  exact ⟨s.memRead_push16_lo v, s.memRead_push16_hi v⟩

/-- Settles O37: CALL and RST push the address after them (`exec_ret_after_push`). -/
theorem callThenReturn : Obligations.CallThenReturn := by
  unfold Obligations.CallThenReturn
  refine ⟨?call, ?rst⟩
  case call =>
    intro nn s t u h hsp hlo hhi
    obtain rfl : s.call true nn = t := Host.Outcome.next.inj h
    have hsp' : (s.call true nn).sp = s.sp - 2 := s.push16_sp _
    obtain ⟨htop, hnext⟩ := s.memRead_push16_top (s.pc + 3)
    exact exec_ret_after_push (hsp.trans hsp') (hlo.trans (hsp' ▸ htop)) (hhi.trans (hsp' ▸ hnext))
  case rst =>
    intro k s t u h hsp hlo hhi
    obtain rfl := Host.Outcome.next.inj ((exec_rst s k).symm.trans h)
    have hsp' : (s.restart (BitVec.ofNat 16 (k.val * 8))).sp = s.sp - 2 := s.push16_sp _
    obtain ⟨htop, hnext⟩ := s.memRead_push16_top (s.pc + 1)
    exact exec_ret_after_push (hsp.trans hsp') (hlo.trans (hsp' ▸ htop)) (hhi.trans (hsp' ▸ hnext))

/-- Settles O38: the pushed cells are those of `State.push16`, the rest is `State.restart_eq`. -/
theorem restartPushesAndJumps : Obligations.RestartPushesAndJumps := by
  unfold Obligations.RestartPushesAndJumps
  intro k s
  refine ⟨_, exec_rst s k, s.memRead_push16_hi _, s.memRead_push16_lo _, fun a h1 h2 => s.memRead_push16_of_ne _ h1 h2,
    ?vector, s.restart_eq _⟩
  case vector => exact Nat.mod_eq_of_lt (by omega)

end Sys2Proof.Machine

/-! The 8-bit ALU (spec/42_alu8.md R150 to R178). -/
namespace Sys2Proof.Machine

section
variable (s : State) (raw : Int) (sub : Bool) (len : Word) (r8 : Byte)

/-- An arithmetic operation changes its operand, F and the program counter alone. -/
theorem State.arithTo_frame (o : Operand8) : s.arithTo o raw sub len =
    { s.setX o (trunc8 raw) with f := (s.arithTo o raw sub len).f, pc := s.pc + len,
                                 draws := (s.arithTo o raw sub len).draws } := by
  unfold State.arithTo
  rw [State.arithFlags_eq, State.advance_frame]
  simp

@[simp] theorem State.arithTo_a : (s.arithTo (.reg .a) raw sub len).a = trunc8 raw :=
  s.get8_arithTo (.reg .a) raw sub len .a

theorem State.arithTo_a_frame : s.arithTo (.reg .a) raw sub len =
    { s with a := (s.arithTo (.reg .a) raw sub len).a, f := (s.arithTo (.reg .a) raw sub len).f, pc := s.pc + len,
             draws := (s.arithTo (.reg .a) raw sub len).draws } := by
  rw [State.arithTo_a]
  exact s.arithTo_frame raw sub len (.reg .a)

theorem State.get8_arithTo_same (r : Reg8) : (s.arithTo (.reg r) raw sub len).get8 r = trunc8 raw := by
  rw [State.get8_arithTo, State.setX_reg, State.get8_set8, if_pos rfl]

theorem State.arithTo_reg_frame (r : Reg8) : s.arithTo (.reg r) raw sub len =
    { s.set8 r ((s.arithTo (.reg r) raw sub len).get8 r) with
        f := (s.arithTo (.reg r) raw sub len).f, pc := s.pc + len, draws := (s.arithTo (.reg r) raw sub len).draws } := by
  rw [State.get8_arithTo_same]
  exact s.arithTo_frame raw sub len (.reg r)

theorem State.memRead_arithTo (o : Operand8) (a : Word) :
    (s.arithTo o raw sub len).memRead a = (s.setX o (trunc8 raw)).memRead a :=
  State.memRead_congr (State.arithTo_mem ..) a

theorem State.memRead_arithTo_mHL (a : Word) :
    (s.arithTo .mHL raw sub len).memRead a = if a = s.hl then trunc8 raw else s.memRead a := by
  rw [State.memRead_arithTo]
  exact s.memRead_memWrite s.hl a _

theorem State.arithTo_mHL_frame : s.arithTo .mHL raw sub len =
    { s with mem := (s.arithTo .mHL raw sub len).mem, f := (s.arithTo .mHL raw sub len).f, pc := s.pc + len,
             draws := (s.arithTo .mHL raw sub len).draws } := by
  rw [State.arithTo_mem]
  exact s.arithTo_frame raw sub len .mHL

/-- A logical operation changes A, F and the program counter alone. -/
theorem State.logicTo_frame : s.logicTo r8 len =
    { s with a := (s.logicTo r8 len).a, f := (s.logicTo r8 len).f, pc := s.pc + len, draws := (s.logicTo r8 len).draws } :=
  rfl

end

theorem ArithFlagsHold.resultFlags {s t : State} {r8 : Byte} {raw : Int} {sub : Bool} (h : ArithFlagsHold s t r8 raw sub) :
    ResultFlags t r8 := h.1

/-- What a subtraction leaves of the flags: C as it was, N set. -/
theorem ArithFlagsHold.subtraction {s t : State} {r8 : Byte} {raw : Int} (h : ArithFlagsHold s t r8 raw true)
    (hraw : raw ≤ 255) : ResultFlags t r8 ∧ t.flag .c = s.flag .c ∧ t.flag .n = true ∧ UnusedKept s t := by
  obtain ⟨-, hn, hc, hunused⟩ := h.subFamily hraw
  exact ⟨h.resultFlags, hc, hn, hunused⟩

/-- A bit as a number. -/
theorem bitNat_eq_toNat (b : Bool) : bitNat b = b.toNat := by cases b <;> rfl

/-- The unsigned byte of a non-negative exact result. -/
theorem toNat_trunc8_natCast (n : Nat) : (trunc8 n).toNat = n % 256 := by
  have := toNat_trunc8 n
  omega

/-- Settles O39: both are `State.arithTo` on A, with the exact sum. -/
theorem addAndAdcResult : Obligations.AddAndAdcResult := by
  unfold Obligations.AddAndAdcResult
  refine ⟨fun s => ⟨fun _ => rfl, rfl, fun _ => rfl⟩, ⟨fun _ => rfl, fun _ => rfl⟩, fun v s => ?add, fun v s => ?adc⟩
  case add =>
    refine ⟨_, (Executes.add v).exec_eq, ?_, ?_, s.arithTo_a_frame ..⟩
    · rw [State.arithTo_a]
      exact toNat_trunc8_natCast (s.a.toNat + (s.aluOperand v).toNat)
    · rw [State.arithTo_a]
      exact s.arithTo_spec ..
  case adc =>
    refine ⟨_, (Executes.adc v).exec_eq, ?_, ?_, s.arithTo_a_frame ..⟩
    · rw [State.arithTo_a, bitNat_eq_toNat]
      exact toNat_trunc8_natCast (s.a.toNat + (s.aluOperand v).toNat + (s.flag .c).toNat)
    · rw [State.arithTo_a, bitNat_eq_toNat]
      exact s.arithTo_spec ..

/-- A subtraction on A, all it leaves: what SUB and SBC have in common. -/
def SubtractsToA (s t : State) (raw : Int) (len : Word) : Prop :=
  (t.a.toNat : Int) = raw % 256
  ∧ ResultFlags t t.a ∧ t.flag .c = s.flag .c ∧ t.flag .n = true ∧ UnusedKept s t
  ∧ t = { s with a := t.a, f := t.f, pc := s.pc + len, draws := t.draws }

theorem State.subtractsToA_arithTo (s : State) {raw : Int} (hraw : raw ≤ 255) (len : Word) :
    SubtractsToA s (s.arithTo (.reg .a) raw true len) raw len := by
  obtain ⟨hres, hc, hn, hunused⟩ := (s.arithTo_spec (.reg .a) raw true len).subtraction hraw
  refine ⟨?_, ?_, hc, hn, hunused, s.arithTo_a_frame raw true len⟩
  · rw [State.arithTo_a, toNat_trunc8]
  · rw [State.arithTo_a]
    exact hres

/-- Settles O40: both are `State.arithTo` on A, with the exact difference, which is at most 255. -/
theorem subAndSbcResult : Obligations.SubAndSbcResult := by
  unfold Obligations.SubAndSbcResult
  refine ⟨fun v s => ?sub, fun v s => ?sbc⟩
  case sub =>
    have ha := byte_toNat_le s.a
    exact ⟨_, (Executes.sub v).exec_eq, s.subtractsToA_arithTo (by omega) _⟩
  case sbc =>
    have ha := byte_toNat_le s.a
    have hexec := (Executes.sbc (s := s) v).exec_eq
    rw [bitNat_eq_toNat] at hexec
    exact ⟨_, hexec, s.subtractsToA_arithTo (by omega) _⟩

/-- Settles O41: the flags are `State.logicTo_spec`, the frame `State.logicTo_frame`. -/
theorem logicResult : Obligations.LogicResult := by
  unfold Obligations.LogicResult
  exact fun v s => ⟨⟨_, (Executes.and v).exec_eq, rfl, s.logicTo_spec .., s.logicTo_frame ..⟩,
    ⟨_, (Executes.xor v).exec_eq, rfl, s.logicTo_spec .., s.logicTo_frame ..⟩,
    ⟨_, (Executes.or v).exec_eq, rfl, s.logicTo_spec .., s.logicTo_frame ..⟩⟩

/-- The exact difference of two bytes wraps to their difference. -/
theorem trunc8_sub (x y : Byte) : trunc8 ((x.toNat : Int) - y.toNat) = x - y := by
  apply BitVec.eq_of_toNat_eq
  have h := toNat_trunc8 ((x.toNat : Int) - y.toNat)
  have := y.isLt
  rw [BitVec.toNat_sub]
  omega

/-- Settles O42: the flags are those of a subtraction (`ArithFlagsHold.subtraction`), and A is not written. -/
theorem compareResult : Obligations.CompareResult := by
  unfold Obligations.CompareResult
  intro v s
  have ha := byte_toNat_le s.a
  have hexec := (Executes.cp (s := s) v).exec_eq
  rw [trunc8_sub] at hexec
  have hflags := s.arithFlags_spec (s.a - s.aluOperand v) (s.a.toNat - (s.aluOperand v).toNat) true
  obtain ⟨hres, hc, hn, hunused⟩ := hflags.subtraction (by omega)
  refine ⟨_, hexec, hres, ?zero, hc, hn, hunused, ?frame⟩
  case zero =>
    rw [State.flag_advance, State.flag_z_arithFlags, decide_eq_true_eq]
    exact sub_eq_zero
  case frame => exact congrArg (·.advance (aluLength v)) (s.arithFlags_eq ..)

/-- Settles O43: INC is an addition, DEC a subtraction, to the register as operand (`State.arithTo`). -/
theorem incDecRegisterResult : Obligations.IncDecRegisterResult := by
  unfold Obligations.IncDecRegisterResult
  intro r s
  refine ⟨⟨_, (Executes.inc (.reg r)).exec_eq, ?incValue, ?incFlags, s.arithTo_reg_frame ..⟩,
    ⟨_, (Executes.dec (.reg r)).exec_eq, ?decValue, ?decRest⟩⟩
  case incValue =>
    rw [State.get8_arithTo_same]
    exact toNat_trunc8_natCast ((s.get8 r).toNat + 1)
  case incFlags =>
    rw [State.get8_arithTo_same]
    exact s.arithTo_spec ..
  case decValue =>
    rw [State.get8_arithTo_same]
    exact toNat_trunc8 _
  case decRest =>
    have hx := byte_toNat_le (s.x (.reg r))
    obtain ⟨hres, hc, hn, hunused⟩ :=
      (s.arithTo_spec (.reg r) ((s.x (.reg r)).toNat - 1) true 1).subtraction (by omega)
    refine ⟨?_, hc, hn, hunused, s.arithTo_reg_frame ..⟩
    rw [State.get8_arithTo_same]
    exact hres

/-- Settles O44: INC is an addition, DEC a subtraction, to the cell at HL as operand (`State.arithTo`). -/
theorem incDecMemoryResult : Obligations.IncDecMemoryResult := by
  unfold Obligations.IncDecMemoryResult
  intro s
  have hread (raw : Int) (sub : Bool) : (s.arithTo .mHL raw sub 1).memRead s.hl = trunc8 raw := by
    rw [State.memRead_arithTo_mHL, if_pos rfl]
  have hkept (raw : Int) (sub : Bool) (a : Word) (ha : a ≠ s.hl) :
      (s.arithTo .mHL raw sub 1).memRead a = s.memRead a := by
    rw [State.memRead_arithTo_mHL, if_neg ha]
  refine ⟨⟨_, (Executes.inc .mHL).exec_eq, ?incValue, ?incFlags, hkept _ _, s.arithTo_mHL_frame ..⟩,
    ⟨_, (Executes.dec .mHL).exec_eq, ?decValue, ?decRest⟩⟩
  case incValue =>
    rw [hread]
    exact toNat_trunc8_natCast ((s.memRead s.hl).toNat + 1)
  case incFlags =>
    rw [hread]
    exact s.arithTo_spec ..
  case decValue =>
    rw [hread]
    exact toNat_trunc8 _
  case decRest =>
    have hx := byte_toNat_le (s.x .mHL)
    obtain ⟨hres, hc, hn, hunused⟩ := (s.arithTo_spec .mHL ((s.x .mHL).toNat - 1) true 1).subtraction (by omega)
    refine ⟨?_, hc, hn, hunused, hkept _ _, s.arithTo_mHL_frame ..⟩
    rw [hread]
    exact hres

end Sys2Proof.Machine

/-! The 8-bit loads (spec/44_load8.md R210 to R220). -/
namespace Sys2Proof.Machine

/-- A register write followed by the program counter's move changes the general registers and the program counter alone. -/
theorem State.set8_advance_eq (s : State) (r : Reg8) (v : Byte) (k : Word) : (s.set8 r v).advance k =
    { s with a := ((s.set8 r v).advance k).a, b := ((s.set8 r v).advance k).b, c := ((s.set8 r v).advance k).c,
             d := ((s.set8 r v).advance k).d, e := ((s.set8 r v).advance k).e, h := ((s.set8 r v).advance k).h,
             l := ((s.set8 r v).advance k).l, pc := s.pc + k } := by cases r <;> rfl

/-- A load into a register, all it leaves: what LD r,r', LD r,n and LD r,(HL) have in common. -/
def LoadsRegister (s t : State) (dst : Reg8) (v : Byte) (len : Word) : Prop :=
  t.get8 dst = v ∧ (∀ q, q ≠ dst → t.get8 q = s.get8 q)
  ∧ t = { s with a := t.a, b := t.b, c := t.c, d := t.d, e := t.e, h := t.h, l := t.l, pc := s.pc + len }

theorem State.loadsRegister (s : State) (dst : Reg8) (v : Byte) (len : Word) :
    LoadsRegister s ((s.set8 dst v).advance len) dst v len := by
  refine ⟨?_, fun q hq => s.get8_set8_of_ne hq v, s.set8_advance_eq dst v len⟩
  rw [State.get8_advance, State.get8_set8, if_pos rfl]

/-- Settles O45: a self-copy writes the register's own value (`State.set8_get8`). -/
theorem loadRegisterFromRegister : Obligations.LoadRegisterFromRegister := by
  unfold Obligations.LoadRegisterFromRegister
  refine ⟨fun dst src => encode_ld (.reg dst) (.reg src), fun dst src s => ?_⟩
  obtain ⟨hval, hothers, hframe⟩ := s.loadsRegister dst (s.get8 src) 1
  refine ⟨_, exec_ld s (by simp), hval, hothers, hframe, ?selfCopy⟩
  case selfCopy =>
    rintro rfl
    exact congrArg (·.advance 1) (s.set8_get8 dst)

/-- Settles O46: `State.loadsRegister` with the immediate. -/
theorem loadRegisterImmediate : Obligations.LoadRegisterImmediate := by
  unfold Obligations.LoadRegisterImmediate
  exact ⟨fun dst n => encode_ldImm (.reg dst) n, fun dst n s => ⟨_, exec_ldImm s (.reg dst) n, s.loadsRegister dst n 2⟩⟩

/-- Settles O47: `State.loadsRegister` with the byte at HL; the loads of A are one register write. -/
theorem loadFromMemory : Obligations.LoadFromMemory := by
  unfold Obligations.LoadFromMemory
  exact ⟨fun dst s => ⟨_, exec_ld s (by simp), s.loadsRegister dst (s.memRead s.hl) 1⟩, fun _ => rfl, fun _ => rfl,
    fun _ _ => rfl⟩

/-- Settles O48: each is one `MemWrite`, whose reads are `State.memRead_memWrite`. -/
theorem storeToMemory : Obligations.StoreToMemory := by
  unfold Obligations.StoreToMemory
  intro s
  refine ⟨?register, ?immediate, ?viaBC, ?viaDE, ?absolute⟩
  case register => exact fun r => ⟨_, exec_ld s (by simp), fun a => s.memRead_memWrite s.hl a (s.get8 r), rfl⟩
  case immediate => exact fun n => ⟨_, rfl, fun a => s.memRead_memWrite s.hl a n, rfl⟩
  case viaBC => exact ⟨_, rfl, fun a => s.memRead_memWrite s.bc a s.a, rfl⟩
  case viaDE => exact ⟨_, rfl, fun a => s.memRead_memWrite s.de a s.a, rfl⟩
  case absolute => exact fun nn => ⟨_, rfl, fun a => s.memRead_memWrite nn a s.a, rfl⟩

end Sys2Proof.Machine

/-! The 16-bit loads, the stack instructions and the exchanges (spec/45_load16_stack.md R240 to R249). -/
namespace Sys2Proof.Machine

/-- Settles O49: the bytes are `encode_ldDD`, the effect the model's equation for each pair. -/
theorem loadPairImmediate : Obligations.LoadPairImmediate := by
  unfold Obligations.LoadPairImmediate
  exact ⟨encode_ldDD, fun nn s => ⟨rfl, rfl, rfl, rfl⟩⟩

/-- HL loaded from a word in memory: L from its low byte, H from its high byte. -/
theorem State.set16_hl_memRead16 (s : State) (a : Word) :
    s.set16 .hl (s.memRead16 a) = { s with h := s.memRead (a + 1), l := s.memRead a } := by
  simp [State.set16, State.memRead16]

/-- Settles O50: the words in memory are `State.memRead16` and `State.memRead_memWrite16`, with HL's bytes H and L. -/
theorem hlTransfers : Obligations.HLTransfers := by
  unfold Obligations.HLTransfers
  intro s
  refine ⟨fun nn => ?load, fun nn => ⟨_, rfl, fun a => ?store, rfl⟩, rfl, ?exchange⟩
  case load =>
    rw [(Executes.ldHL_mnn nn).exec_eq, State.set16_hl_memRead16]
    rfl
  case store =>
    have hhi : hiByte s.hl = s.h := hiByte_wordOf s.h s.l
    have hlo : loByte s.hl = s.l := loByte_wordOf s.h s.l
    rw [State.memRead_advance, State.memRead_memWrite16, hhi, hlo]
  case exchange =>
    rw [Executes.exDE_HL.exec_eq]
    simp [State.set16, State.hl, State.de, State.get16, State.advance]

/-- Settles O51: the stored cells are those of `State.push16`, the frame `State.push16_eq`. -/
theorem pushStoresPair : Obligations.PushStoresPair := by
  unfold Obligations.PushStoresPair
  intro p s
  refine ⟨_, exec_push s p, s.memRead_push16_hi _, s.memRead_push16_lo _, fun a h1 h2 => s.memRead_push16_of_ne _ h1 h2,
    ?frame⟩
  case frame => exact congrArg (·.advance 1) (s.push16_eq (s.get16 p))

/-- Settles O52: each register of the pair gets its byte of the word at SP. -/
theorem popLoadsPair : Obligations.PopLoadsPair := by
  unfold Obligations.PopLoadsPair
  intro s
  have hpop (p : RegQQ) : exec (Form.pop p) s =
      .next ((({ s with sp := s.sp + 2 } : State).set16 p (wordOf (s.memRead (s.sp + 1)) (s.memRead s.sp))).advance 1) :=
    exec_pop s p
  simp only [hpop, State.set16, hiByte_wordOf, loByte_wordOf]
  exact ⟨rfl, rfl, rfl, rfl⟩

/-- Settles O53: the reads of `exchangeSP` are `State.memRead_exchangeSP`. -/
theorem exchangeStackTop : Obligations.ExchangeStackTop := by
  unfold Obligations.ExchangeStackTop
  refine fun s => ⟨_, rfl, s.memRead_exchangeSP, ?frame⟩
  case frame => simp [exchangeSP, State.set16, State.memRead16, State.memWrite, State.advance]

/-- Settles O54: the three have no other effect than `State.raise`. -/
theorem unmodelledOpcodesRaise : Obligations.UnmodelledOpcodesRaise := by
  unfold Obligations.UnmodelledOpcodesRaise
  exact fun s => ⟨exec_of_raises .exAF_AF, exec_of_raises .exx, exec_of_raises .daa⟩

end Sys2Proof.Machine

/-! IN and OUT (spec/47_io.md R300 to R302). -/
namespace Sys2Proof.Machine

/-- Settles O58: the two cases of `PortRead` (R300). -/
theorem inputResult : Obligations.InputResult := by
  unfold Obligations.InputResult
  exact fun n s => ⟨fun h => input_ok s h, fun h => input_fault s h⟩

/-- Settles O59: the two cases of `PortWrite` (R300). -/
theorem outputResult : Obligations.OutputResult := by
  unfold Obligations.OutputResult
  exact fun n s => ⟨fun h => ⟨_, output_ok s h, fun k hk => Ports.getElem_set s.ports h hk s.a, rfl⟩,
    fun h => output_fault s h⟩

end Sys2Proof.Machine

/-! Accumulator and flag operations, 16-bit arithmetic, rotates (spec/46_misc_arith_rotate.md R271 to R280). -/
namespace Sys2Proof.Machine

theorem getLsbD_bitByte (b : Bool) (j : Nat) : (bitByte b).getLsbD j = (decide (j = 0) && b) := by
  cases b <;> simp [bitByte, BitVec.getLsbD_one]

/-- Every bit moved up by one place, the bit `b` into place 0. -/
theorem getLsbD_shiftLeft_or_bitByte (v : Byte) (b : Bool) {j : Nat} (hj : j < 8) :
    (v <<< 1 ||| bitByte b).getLsbD j = if j = 0 then b else v.getLsbD (j - 1) := by
  rw [BitVec.getLsbD_or, BitVec.getLsbD_shiftLeft, getLsbD_bitByte]
  by_cases h : j = 0
  · simp [h]
  · have : ¬ j < 1 := by omega
    simp [h, hj, this]

/-- Every bit moved down by one place, the bit `b` into place 7. -/
theorem getLsbD_ushiftRight_or_bitByte (v : Byte) (b : Bool) {j : Nat} (hj : j < 8) :
    (v >>> 1 ||| bitByte b <<< 7).getLsbD j = if j = 7 then b else v.getLsbD (j + 1) := by
  rw [BitVec.getLsbD_or, BitVec.getLsbD_ushiftRight, BitVec.getLsbD_shiftLeft, getLsbD_bitByte, Nat.add_comm]
  by_cases h : j = 7
  · simp [h]
  · have : j < 7 := by omega
    simp [h, hj, this]

/-- The flags and the frame of an accumulator operation that writes C and draws H and N. -/
theorem State.carryFlags_rotate (s : State) (r8 : Byte) (c : Bool) :
    (((s.set8 .a r8).carryFlags c).advance 1).flag .c = c
    ∧ ResultFlagsKept s (((s.set8 .a r8).carryFlags c).advance 1)
    ∧ UnusedKept s (((s.set8 .a r8).carryFlags c).advance 1) :=
  (s.set8 .a r8).carryFlags_spec c

/-- The rotates around the end, bit by bit. -/
theorem getLsbD_rotateUp (v : Byte) {j : Nat} (hj : j < 8) :
    (v <<< 1 ||| bitByte (v.getLsbD 7)).getLsbD j = v.getLsbD ((j + 7) % 8) := by
  rw [getLsbD_shiftLeft_or_bitByte v _ hj]
  split
  · next h => rw [h]
  · next h => rw [show (j + 7) % 8 = j - 1 by omega]

theorem getLsbD_rotateDown (v : Byte) {j : Nat} (hj : j < 8) :
    (v >>> 1 ||| bitByte (v.getLsbD 0) <<< 7).getLsbD j = v.getLsbD ((j + 1) % 8) := by
  rw [getLsbD_ushiftRight_or_bitByte v _ hj]
  split
  · next h => rw [h]
  · next h => rw [show (j + 1) % 8 = j + 1 by omega]

/-- The rotates through C, bit by bit. -/
theorem getLsbD_shiftUp_zero (v : Byte) (b : Bool) : (v <<< 1 ||| bitByte b).getLsbD 0 = b := by
  rw [getLsbD_shiftLeft_or_bitByte v b (by decide), if_pos rfl]

theorem getLsbD_shiftUp_succ (v : Byte) (b : Bool) {j : Nat} (hj : j < 7) :
    (v <<< 1 ||| bitByte b).getLsbD (j + 1) = v.getLsbD j := by
  rw [getLsbD_shiftLeft_or_bitByte v b (by omega), if_neg (by omega), Nat.add_sub_cancel]

theorem getLsbD_shiftDown_seven (v : Byte) (b : Bool) : (v >>> 1 ||| bitByte b <<< 7).getLsbD 7 = b := by
  rw [getLsbD_ushiftRight_or_bitByte v b (by decide), if_pos rfl]

theorem getLsbD_shiftDown (v : Byte) (b : Bool) {j : Nat} (hj : j < 7) :
    (v >>> 1 ||| bitByte b <<< 7).getLsbD j = v.getLsbD (j + 1) := by
  rw [getLsbD_ushiftRight_or_bitByte v b (by omega), if_neg (by omega)]

/-- Settles O55: the bits of A are the rotates' lemmas, the flags those of `State.carryFlags_spec` and, for CPL,
`State.drawHN_spec`. -/
theorem accumulatorOperations : Obligations.AccumulatorOperations := by
  unfold Obligations.AccumulatorOperations
  intro s
  refine ⟨?cpl, ?scf, ?ccf, ?rlca, ?rrca, ?rla, ?rra⟩
  case cpl =>
    obtain ⟨hc, hkept, hunused⟩ := (s.set8 .a (~~~s.a)).drawHN_spec
    exact ⟨_, Executes.cpl.exec_eq, (BitVec.xor_allOnes (x := s.a)).symm, hc, hkept, hunused, rfl⟩
  case scf =>
    obtain ⟨hc, hkept, hunused⟩ := s.carryFlags_spec true
    exact ⟨_, Executes.scf.exec_eq, hc, hkept, hunused, rfl⟩
  case ccf =>
    obtain ⟨hc, hkept, hunused⟩ := s.carryFlags_spec (!s.flag .c)
    exact ⟨_, Executes.ccf.exec_eq, hc, hkept, hunused, rfl⟩
  case rlca =>
    obtain ⟨hc, hkept, hunused⟩ := s.carryFlags_rotate _ (s.a.getLsbD 7)
    exact ⟨_, Executes.rlca.exec_eq, fun _ hj => getLsbD_rotateUp s.a hj, hc, hkept, hunused, rfl⟩
  case rrca =>
    obtain ⟨hc, hkept, hunused⟩ := s.carryFlags_rotate _ (s.a.getLsbD 0)
    exact ⟨_, Executes.rrca.exec_eq, fun _ hj => getLsbD_rotateDown s.a hj, hc, hkept, hunused, rfl⟩
  case rla =>
    obtain ⟨hc, hkept, hunused⟩ := s.carryFlags_rotate _ (s.a.getLsbD 7)
    exact ⟨_, Executes.rla.exec_eq, getLsbD_shiftUp_zero s.a _, fun _ hj => getLsbD_shiftUp_succ s.a _ hj, hc, hkept,
      hunused, rfl⟩
  case rra =>
    obtain ⟨hc, hkept, hunused⟩ := s.carryFlags_rotate _ (s.a.getLsbD 0)
    exact ⟨_, Executes.rra.exec_eq, getLsbD_shiftDown_seven s.a _, fun _ hj => getLsbD_shiftDown s.a _ hj, hc, hkept,
      hunused, rfl⟩

/-- Settles O56: the sum is the word `set16` stores in HL, the flags `State.carryFlags_spec`. -/
theorem addHLResult : Obligations.AddHLResult := by
  unfold Obligations.AddHLResult
  refine ⟨fun s => ⟨rfl, rfl, rfl, rfl⟩, fun r s => ?_⟩
  obtain ⟨hc, hkept, hunused⟩ := (s.set16 .hl (trunc16 (s.hl.toNat + (s.getDD r).toNat : Nat))).carryFlags_spec
    (decide (s.hl.toNat + (s.getDD r).toNat > 0xFFFF))
  refine ⟨_, (Executes.addHL r).exec_eq, ?sum, hc, hkept, hunused, rfl⟩
  case sum =>
    have hval := toNat_trunc16 (s.hl.toNat + (s.getDD r).toNat : Nat)
    have hhl := s.get16_set16 .hl (trunc16 (s.hl.toNat + (s.getDD r).toNat : Nat))
    refine (congrArg BitVec.toNat hhl).trans ?_
    omega

/-- A `dd` operand's write followed by the program counter's move changes the operand and the program counter alone. -/
theorem State.setDD_advance_eq (s : State) (r : RegDD) (v : Word) (k : Word) : (s.setDD r v).advance k =
    { s with b := ((s.setDD r v).advance k).b, c := ((s.setDD r v).advance k).c, d := ((s.setDD r v).advance k).d,
             e := ((s.setDD r v).advance k).e, h := ((s.setDD r v).advance k).h, l := ((s.setDD r v).advance k).l,
             sp := ((s.setDD r v).advance k).sp, pc := s.pc + k } := by cases r <;> rfl

@[simp] theorem State.getDD_advance (s : State) (k : Word) (r : RegDD) : (s.advance k).getDD r = s.getDD r := by
  cases r <;> rfl

/-- Settles O57: a `dd` operand's write is read back (`State.getDD_setDD`) and no other operand sees it. -/
theorem incDecPairResult : Obligations.IncDecPairResult := by
  unfold Obligations.IncDecPairResult
  intro r s
  refine ⟨⟨_, exec_incDD s r, ?_, fun q hq => ?_, s.setDD_advance_eq ..⟩,
    ⟨_, exec_decDD s r, ?_, fun q hq => ?_, s.setDD_advance_eq ..⟩⟩
  all_goals rw [State.getDD_advance]
  · exact s.getDD_setDD r _
  · exact s.getDD_setDD_of_ne hq _
  · exact s.getDD_setDD r _
  · exact s.getDD_setDD_of_ne hq _

end Sys2Proof.Machine
